-- ==== Sys2Proof/Word.lean ====
section
/-! DEFINITION. The bit-vector types of IVFR. All values are unsigned (00_scope.md R12). -/

namespace Sys2Proof

/-- A stream byte, a payload byte, a length byte (00_scope.md R7: byte width 8). -/
abbrev Byte := BitVec 8

/-- A host register word; also the width of every counter (00_scope.md R7: bus data width 32, counter width 32). -/
abbrev Word := BitVec 32

/-- A decoded 24-bit field: BUTTONS, LSTICK, RSTICK (10_state.md R28). -/
abbrev U24 := BitVec 24

/-- A stick axis (30_encoding.md R75). -/
abbrev U12 := BitVec 12

end Sys2Proof
end

