-- ==== Sys2Proof/Syntax.lean ====
section
/-! DEFINITION. The operations of IVFR, one constructor per row of spec/opcode_table.json, and the input vector of one
cycle (30_encoding.md R78 to R80, R83). -/

namespace Sys2Proof

/-- One operation of a cycle. IVFR executes no program (10_state.md R20, R21): an "instruction" of this model is what
one of the three words of a cycle's input vector selects. The bits R84 calls ignored are no operands. -/
inductive Instr where
  /-- CTL: RESET (70_reset_and_hazards.md R260). -/
  | reset
  /-- STREAM: RXFAULT (40_frame_receiver.md R102; in HALT R104). -/
  | rxFault
  /-- STREAM: RXBYTE with operand D (R100). -/
  | rxByte (d : Byte)
  /-- STREAM: RXIDLE (R100). -/
  | rxIdle
  /-- BUS: no host access (43_host_bus.md R208). -/
  | busNop
  /-- R182. -/
  | rdCtrl
  /-- R183; WDATA. -/
  | wrCtrl (v : Word)
  /-- R184. -/
  | rdStatus
  /-- R185; WDATA, unused. -/
  | wrStatus (v : Word)
  /-- R186. -/
  | rdEvents
  /-- R187; WDATA. -/
  | wrEvents (v : Word)
  /-- R188. -/
  | rdIrqEn
  /-- R189; WDATA. -/
  | wrIrqEn (v : Word)
  /-- R190. -/
  | rdTimeout
  /-- R191; WDATA. -/
  | wrTimeout (v : Word)
  /-- R192. -/
  | rdFrameLen
  /-- R193; WDATA, unused. -/
  | wrFrameLen (v : Word)
  /-- R194. -/
  | rdButtons
  /-- R195; WDATA, unused. -/
  | wrButtons (v : Word)
  /-- R196. -/
  | rdLstick
  /-- R197; WDATA, unused. -/
  | wrLstick (v : Word)
  /-- R198. -/
  | rdRstick
  /-- R199; WDATA, unused. -/
  | wrRstick (v : Word)
  /-- R200. -/
  | rdFps
  /-- R201; WDATA, unused. -/
  | wrFps (v : Word)
  /-- R202. -/
  | rdElapsed
  /-- R203; WDATA, unused. -/
  | wrElapsed (v : Word)
  /-- R204; the word index `k`. -/
  | rdPayload (k : BitVec 6)
  /-- R205; the word index `k` and WDATA, unused. -/
  | wrPayload (k : BitVec 6) (v : Word)
  /-- R206; the word address, one no other row matches. -/
  | rdRsvd (a : BitVec 10)
  /-- R207; the word address, one no other row matches, and WDATA, unused. -/
  | wrRsvd (a : BitVec 10) (v : Word)
  deriving DecidableEq, Repr

/-- The input vector of one cycle (30_encoding.md section 3): `ctl[0] = rst`; `stream = (rx_fault, rx_valid, rx_data)`;
`bus = (bus_sel, bus_we, bus_addr)` with `wdata = bus_wdata`. -/
structure CycleIn where
  ctl    : BitVec 1
  stream : BitVec 10
  bus    : BitVec 14
  wdata  : Word
  deriving DecidableEq, Repr

/-- Whether an operation is a host read (BUS with S = 1, W = 0): its answer is taken from the state at the start of
the cycle (43_host_bus.md R181). -/
def Instr.isRead : Instr → Bool
  | .rdCtrl | .rdStatus | .rdEvents | .rdIrqEn | .rdTimeout | .rdFrameLen | .rdButtons | .rdLstick | .rdRstick
  | .rdFps | .rdElapsed | .rdPayload _ | .rdRsvd _ => true
  | .reset | .rxFault | .rxByte _ | .rxIdle | .busNop
  | .wrCtrl _ | .wrStatus _ | .wrEvents _ | .wrIrqEn _ | .wrTimeout _ | .wrFrameLen _ | .wrButtons _ | .wrLstick _
  | .wrRstick _ | .wrFps _ | .wrElapsed _ | .wrPayload _ _ | .wrRsvd _ _ => false

end Sys2Proof
end

