-- ==== Sys2Proof/WellFormed.lean ====
section
/-! DEFINITION. Which terms of `Instr` are operations of the spec. The only check is the address of the two RSVD rows:
they stand for the addresses no other row matches (43_host_bus.md R206, R207). Every other operand may hold any value
(30_encoding.md R84: no input vector is illegal). -/

namespace Sys2Proof

/-- The word address `a` is reserved: byte addresses 0x02C to 0x0FC or 0x200 to 0xFFC (30_encoding.md R82). -/
def isReservedWord (a : BitVec 10) : Bool :=
  (decide (0x02C ≤ 4 * a.toNat) && decide (4 * a.toNat ≤ 0x0FC)) || decide (0x200 ≤ 4 * a.toNat)

/-- The term is an operation of the spec. -/
def Instr.wf : Instr → Bool
  | .rdRsvd a => isReservedWord a
  | .wrRsvd a _ => isReservedWord a
  | .reset | .rxFault | .rxByte _ | .rxIdle | .busNop
  | .rdCtrl | .wrCtrl _ | .rdStatus | .wrStatus _ | .rdEvents | .wrEvents _ | .rdIrqEn | .wrIrqEn _
  | .rdTimeout | .wrTimeout _ | .rdFrameLen | .wrFrameLen _ | .rdButtons | .wrButtons _ | .rdLstick | .wrLstick _
  | .rdRstick | .wrRstick _ | .rdFps | .wrFps _ | .rdElapsed | .wrElapsed _ | .rdPayload _ | .wrPayload _ _ => true

end Sys2Proof
end

