-- ==== Sys2Proof/Decode.lean ====
section
/-! DEFINITION. The decoder of the three operation formats and the encoder, both from 30_encoding.md R78 to R83. Every
value of the STREAM and BUS formats selects exactly one operation (R84); CTL = 0 selects the normal step and is no
operation of its own (R78). -/

namespace Sys2Proof

/-- One operation word in its format. The format is given by the port the word is presented on, not by the word's
bits (30_encoding.md section 3). -/
inductive OpWord where
  /-- CTL, 1 bit (R78). -/
  | ctl (w : BitVec 1)
  /-- STREAM, 10 bits (R79). -/
  | stream (w : BitVec 10)
  /-- BUS, 14 bits, with its operand WDATA (R80). -/
  | bus (w : BitVec 14) (wdata : Word)
  deriving DecidableEq, Repr

/-- Why a word names no operation. -/
inductive DecodeError where
  /-- CTL = 0: the normal step, in which the STREAM and BUS words name the operations (R78). -/
  | normalStep
  /-- Bits that no format has: such a stimulus cannot be expressed (U13). -/
  | outsideFormats
  deriving DecidableEq, Repr

/-- STREAM: F = 1 selects RXFAULT whatever V and D hold; F = 0, V = 1 selects RXBYTE D; F = 0, V = 0 selects RXIDLE
(R79). -/
def decodeStream (w : BitVec 10) : Instr :=
  if w.getLsbD 9 then .rxFault
  else if w.getLsbD 8 then .rxByte (w.extractLsb' 0 8)
  else .rxIdle

/-- A read (S = 1, W = 0) of word address `a`; RSVD is tried last (R82, R83). -/
def decodeRead (a : BitVec 10) : Instr :=
  if a = 0x000#10 then .rdCtrl
  else if a = 0x001#10 then .rdStatus
  else if a = 0x002#10 then .rdEvents
  else if a = 0x003#10 then .rdIrqEn
  else if a = 0x004#10 then .rdTimeout
  else if a = 0x005#10 then .rdFrameLen
  else if a = 0x006#10 then .rdButtons
  else if a = 0x007#10 then .rdLstick
  else if a = 0x008#10 then .rdRstick
  else if a = 0x009#10 then .rdFps
  else if a = 0x00A#10 then .rdElapsed
  else if a.extractLsb' 6 4 = 0x1#4 then .rdPayload (a.extractLsb' 0 6)
  else .rdRsvd a

/-- A write (S = 1, W = 1) of `v` to word address `a`; RSVD is tried last (R82, R83). -/
def decodeWrite (a : BitVec 10) (v : Word) : Instr :=
  if a = 0x000#10 then .wrCtrl v
  else if a = 0x001#10 then .wrStatus v
  else if a = 0x002#10 then .wrEvents v
  else if a = 0x003#10 then .wrIrqEn v
  else if a = 0x004#10 then .wrTimeout v
  else if a = 0x005#10 then .wrFrameLen v
  else if a = 0x006#10 then .wrButtons v
  else if a = 0x007#10 then .wrLstick v
  else if a = 0x008#10 then .wrRstick v
  else if a = 0x009#10 then .wrFps v
  else if a = 0x00A#10 then .wrElapsed v
  else if a.extractLsb' 6 4 = 0x1#4 then .wrPayload (a.extractLsb' 0 6) v
  else .wrRsvd a v

/-- BUS: S = 0 selects BUS.NOP whatever W and A hold; S = 1 selects the read (W = 0) or the write (W = 1) of the
register at word address A = bits 11:2; bits 1:0 are ignored (R80). -/
def decodeBus (w : BitVec 14) (wdata : Word) : Instr :=
  if w.getLsbD 13 then
    if w.getLsbD 12 then decodeWrite (w.extractLsb' 2 10) wdata
    else decodeRead (w.extractLsb' 2 10)
  else .busNop

/-- The decoder, over all three formats (R83). -/
def decode : OpWord → Except DecodeError Instr
  | .ctl w => if w = 1#1 then .ok .reset else .error .normalStep
  | .stream w => .ok (decodeStream w)
  | .bus w v => .ok (decodeBus w v)

/-- BUS word of a read at byte address `a` (R87: `0x2000 | addr`); reads carry no WDATA (R80). -/
def busReadWord (a : BitVec 12) : OpWord := .bus (0b10#2 ++ a) 0#32

/-- BUS word of a write of `v` at byte address `a` (R87: `0x3000 | addr`). -/
def busWriteWord (a : BitVec 12) (v : Word) : OpWord := .bus (0b11#2 ++ a) v

/-- The encoder: the word of an operation, with every ignored bit 0 (R79, R82, R87). -/
def encode : Instr → OpWord
  | .reset => .ctl 1#1
  | .rxFault => .stream 0x200#10
  | .rxByte d => .stream (0b01#2 ++ d)
  | .rxIdle => .stream 0x000#10
  | .busNop => .bus 0x0000#14 0#32
  | .rdCtrl => busReadWord 0x000#12
  | .wrCtrl v => busWriteWord 0x000#12 v
  | .rdStatus => busReadWord 0x004#12
  | .wrStatus v => busWriteWord 0x004#12 v
  | .rdEvents => busReadWord 0x008#12
  | .wrEvents v => busWriteWord 0x008#12 v
  | .rdIrqEn => busReadWord 0x00C#12
  | .wrIrqEn v => busWriteWord 0x00C#12 v
  | .rdTimeout => busReadWord 0x010#12
  | .wrTimeout v => busWriteWord 0x010#12 v
  | .rdFrameLen => busReadWord 0x014#12
  | .wrFrameLen v => busWriteWord 0x014#12 v
  | .rdButtons => busReadWord 0x018#12
  | .wrButtons v => busWriteWord 0x018#12 v
  | .rdLstick => busReadWord 0x01C#12
  | .wrLstick v => busWriteWord 0x01C#12 v
  | .rdRstick => busReadWord 0x020#12
  | .wrRstick v => busWriteWord 0x020#12 v
  | .rdFps => busReadWord 0x024#12
  | .wrFps v => busWriteWord 0x024#12 v
  | .rdElapsed => busReadWord 0x028#12
  | .wrElapsed v => busWriteWord 0x028#12 v
  | .rdPayload k => busReadWord (0x1#4 ++ (k ++ 0b00#2))
  | .wrPayload k v => busWriteWord (0x1#4 ++ (k ++ 0b00#2)) v
  | .rdRsvd a => busReadWord (a ++ 0b00#2)
  | .wrRsvd a v => busWriteWord (a ++ 0b00#2) v

/-- The cycle whose one presented operation is `w`; the other ports idle (R87: a line with only one operation). -/
def OpWord.toCycle : OpWord → CycleIn
  | .ctl w => ⟨w, 0x000#10, 0x0000#14, 0#32⟩
  | .stream w => ⟨0#1, w, 0x0000#14, 0#32⟩
  | .bus w v => ⟨0#1, 0x000#10, w, v⟩

/-- Reads a table row's bits as an operation word. The table numbers the bits of a row's own format, so the format is
told by the width: one byte is CTL; two bytes are STREAM when only the ten STREAM bits are used, else BUS; more than
two bytes are a BUS word in bits 13:0 with WDATA from bit 16 on. Widths of exactly 10 and 14 bits name the format.
DESIGN CHOICE, log entry 1: two bytes of zeros are RXIDLE (they are also BUS.NOP's word in its own format). -/
def tableWord (nbits w : Nat) : Except DecodeError OpWord :=
  if nbits ≤ 8 then
    if w < 2 ^ 1 then .ok (.ctl (BitVec.ofNat 1 w)) else .error .outsideFormats
  else if nbits ≤ 16 then
    if w < 2 ^ 10 ∧ nbits ≠ 14 then .ok (.stream (BitVec.ofNat 10 w))
    else if w < 2 ^ 14 ∧ nbits ≠ 10 then .ok (.bus (BitVec.ofNat 14 w) 0#32)
    else .error .outsideFormats
  else
    if w % 2 ^ 16 < 2 ^ 14 ∧ w / 2 ^ 16 < 2 ^ 32 then
      .ok (.bus (BitVec.ofNat 14 (w % 2 ^ 16)) (BitVec.ofNat 32 (w / 2 ^ 16)))
    else .error .outsideFormats

/-- The instruction the decoder reads from an instruction whose bits are `w`, numbered as spec/opcode_table.json
numbers them. -/
def decodeTableWord (nbits w : Nat) : Option Instr :=
  match tableWord nbits w with
  | .error _ => none
  | .ok ow =>
    match decode ow with
    | .ok i => some i
    | .error _ => none

end Sys2Proof
end

