-- ==== Sys2Proof/Config.lean ====
section
/-! DEFINITION. What the spec leaves open: the two OPEN parameters of 00_scope.md R7 and the free inputs of each
cycle (00_scope.md R8). Each is an opaque constant with no body, so no proof can lean on a value of it. -/

namespace Sys2Proof

/-- `TICKS_PER_SEC − 1` of the machine that `State.reset` describes: OPEN, so `TICKS_PER_SEC` is any value from 1 to
2^32 − 1 (00_scope.md R7, U11; a value of 0 cannot be written). Log entry 5. -/
opaque Config.ticksLess1 : Fin 4294967295

/-- `TIMEOUT_RESET` of the machine that `State.reset` describes: OPEN, any 32-bit value (00_scope.md R7, U12). Log
entry 5. -/
opaque Config.timeoutReset : Word

/-- The CTL word of the `n`-th cycle whose inputs nobody listed: a free input of the step (R8). Log entry 2. -/
opaque Config.freeCtl : Nat → BitVec 1

/-- The STREAM word of the `n`-th cycle whose inputs nobody listed: a free input of the step (R8). Log entry 2. -/
opaque Config.freeStream : Nat → BitVec 10

/-- The BUS word of the `n`-th cycle whose inputs nobody listed: a free input of the step (R8). Log entry 2. -/
opaque Config.freeBus : Nat → BitVec 14

/-- WDATA of the `n`-th cycle whose inputs nobody listed: a free input of the step (R8). Log entry 2. -/
opaque Config.freeWdata : Nat → Word

end Sys2Proof
end

