-- ==== Sys2Proof/Machine/State.lean ====
section
/-! DEFINITION. The state of IVFR as plain data: every element of 10_state.md R22 to R38, the parameters of
00_scope.md R7, the output ports of R41, and the model's own fields for the inputs of coming cycles. -/

namespace Sys2Proof.Machine

/-- The receiver state `fsm` (10_state.md R22). Its 3-bit codes are `RxState.code`; codes 5 to 7 are never produced
(U7) and have no constructor. -/
inductive RxState where
  /-- scanning for the start marker -/
  | hunt
  /-- awaiting the length byte -/
  | len
  /-- receiving payload bytes -/
  | payload
  /-- END: awaiting the end marker -/
  | endMark
  /-- stopped by a transport fatal error -/
  | halt
  deriving DecidableEq, Repr

/-- The errors of the source's taxonomy (60_exceptions.md R230). Their LAST_ERR codes are `ErrKind.code`. -/
inductive ErrKind where
  | lengthTimeout
  | payloadTimeout
  | frameMismatch
  | payloadTooShort
  | fatal
  deriving DecidableEq, Repr

/-- A byte buffer as the list of its bytes that differ from what an unlisted index reads as, by rising index. -/
abbrev Memory := List Host.Cell

/-- The OPEN parameters of the step (00_scope.md R7; 10_state.md R39). No operation writes them. -/
structure Params where
  /-- `TICKS_PER_SEC − 1`, so that the parameter is 1 to 2^32 − 1 by construction (U11). -/
  ticksLess1 : Fin 4294967295
  /-- `TIMEOUT_RESET`. -/
  timeoutReset : Word
  deriving DecidableEq, Repr

/-- Frame receiver state (10_state.md section 2, R22 to R26). -/
structure Rx where
  fsm   : RxState
  rxLen : Byte
  rxIdx : Byte
  tmr   : Word
  rxbuf : Memory
  deriving DecidableEq, Repr

/-- The committed frame (10_state.md R27). -/
structure FrameRegs where
  framebuf   : Memory
  frameLen   : Byte
  frameValid : Bool
  deriving DecidableEq, Repr

/-- Decoded controller state (10_state.md R28). -/
structure Decoded where
  buttons  : U24
  lstick   : U24
  rstick   : U24
  decValid : Bool
  deriving DecidableEq, Repr

/-- What the hardware records: EVENTS (10_state.md R29) and LAST_ERR (R31; `none` is code 0, none since reset). -/
structure EventLog where
  events  : BitVec 6
  lastErr : Option ErrKind
  deriving DecidableEq, Repr

/-- What the host configures: CTRL.EN, TIMEOUT, IRQ_EN (10_state.md R32, R33, R30). -/
structure Ctrl where
  en      : Bool
  timeout : Word
  irqEn   : BitVec 6
  deriving DecidableEq, Repr

/-- Rate and uptime tracker state (10_state.md section 5, R34 to R38). -/
structure Tracker where
  winAge   : Word
  winCount : Word
  fps      : Word
  presc    : Word
  elapsed  : Word
  deriving DecidableEq, Repr

/-- The output ports of the last cycle (10_state.md R41). `ev` holds the six `ev_*` ports in the EVENTS bit positions;
while a cycle is being evaluated it is the cycle's event set `E` (00_scope.md R9). -/
structure Outputs where
  busRdata : Word
  irq      : Bool
  ev       : BitVec 6
  buttons  : U24
  lstick   : U24
  rstick   : U24
  decValid : Bool
  deriving DecidableEq, Repr

/-- The whole machine. `committed`, `inputs`, `draws` and `cycle` are the model's own fields (log entries 2, 9). -/
structure State where
  params    : Params
  rx        : Rx
  frame     : FrameRegs
  dec       : Decoded
  log       : EventLog
  ctrl      : Ctrl
  trk       : Tracker
  /-- 1 while a cycle is being evaluated whose stream phase executed Commit (00_scope.md R9). -/
  committed : Bool
  out       : Outputs
  /-- The input vectors of the coming cycles, the next one first. -/
  inputs    : List CycleIn
  /-- How many input vectors have been drawn as free inputs because none was listed. -/
  draws     : Nat
  /-- The index of the current cycle, counted from the last reset (00_scope.md R10). -/
  cycle     : Nat
  deriving DecidableEq, Repr

/-- Why a step stops with a fault: never. No input vector is illegal and none traps (30_encoding.md R84), and no host
access faults (20_memory.md R55); so this type has no constructor, and that is safe. The spec's errors are error
entries that lead to a next state (60_exceptions.md R231 to R233). Log entry 11. -/
inductive Fault where
  deriving DecidableEq, Repr

/-- Why a step is refused. -/
inductive Refusal where
  /-- Raised by an arm of `exec` that gives its instruction no meaning yet; safe. No arm of this model raises it. -/
  | notModelled (mnemonic : String)
  deriving DecidableEq, Repr

/-- Every output port 0: the outputs of a reset cycle (10_state.md R41). -/
def Outputs.zero : Outputs :=
  { busRdata := 0#32, irq := false, ev := 0#6, buttons := 0#24, lstick := 0#24, rstick := 0#24, decValid := false }

/-- `ResetState` (70_reset_and_hazards.md R260, R261) for the parameters `p`; the inputs of later cycles are the
environment's and are handed through. The buffers' contents are unspecified and unobservable (D28); log entry 6. -/
def State.resetWith (p : Params) (inputs : List CycleIn) (draws : Nat) : State where
  params := p
  rx := { fsm := .hunt, rxLen := 0#8, rxIdx := 0#8, tmr := 0#32, rxbuf := [] }
  frame := { framebuf := [], frameLen := 0#8, frameValid := false }
  dec := { buttons := 0#24, lstick := 0#24, rstick := 0#24, decValid := false }
  log := { events := 0#6, lastErr := none }
  ctrl := { en := true, timeout := p.timeoutReset, irqEn := 0#6 }
  trk := { winAge := 0#32, winCount := 0#32, fps := 0#32, presc := 0#32, elapsed := 0#32 }
  committed := false
  out := Outputs.zero
  inputs := inputs
  draws := draws
  cycle := 0

/-- The machine right after reset, the start of cycle 0 (00_scope.md R10), with the open parameters of Config and no
input vector listed. -/
def State.reset : State :=
  State.resetWith { ticksLess1 := Config.ticksLess1, timeoutReset := Config.timeoutReset } [] 0

end Sys2Proof.Machine
end

