-- ==== Sys2Proof/Machine/Operands.lean ====
section
/-! DEFINITION. Operand forms and the literals of the wire format: markers, payload offsets, big-endian assembly, stick
axes, button slots, PAYLOAD lanes, saturation. Each literal the source leaves unaudited (93_implementation_defined.md
part 3) is one constant here. -/

namespace Sys2Proof.Machine

/-- `SOF`, the start marker (30_encoding.md R72). -/
def sof : Byte := 0xAA#8

/-- `EOF`, the end marker (30_encoding.md R72). -/
def eof : Byte := 0xBB#8

/-- `MIN_DECODE_LEN` (00_scope.md R7; 41_decoder.md R140). -/
def minDecodeLen : Nat := 12

/-- Offset of the button field [3,6) (30_encoding.md R73). -/
def buttonsOffset : Nat := 3

/-- Offset of the left-stick field [6,9) (30_encoding.md R73). -/
def lstickOffset : Nat := 6

/-- Offset of the right-stick field [9,12) (30_encoding.md R73). -/
def rstickOffset : Nat := 9

/-- `TICKS_PER_SEC` (00_scope.md R7). -/
def Params.ticksPerSec (p : Params) : Nat := p.ticksLess1.val + 1

/-- Bytes in RXBUF and in FRAMEBUF (20_memory.md R50). -/
def bufferSize : Nat := 256

/-- What a buffer index that nothing has written reads as. DESIGN CHOICE, log entry 6; unobservable (D28). -/
def unlistedByte : Byte := 0x00#8

/-- Byte `a` of a buffer. -/
def Memory.read : Memory → Nat → Byte
  | [], _ => unlistedByte
  | (k, v) :: rest, a => if k = a then v else Memory.read rest a

/-- `be24(b0, b1, b2) = {b0, b1, b2}` (00_scope.md R12). -/
def be24 (b0 b1 b2 : Byte) : U24 := b0 ++ b1 ++ b2

/-- The 24-bit big-endian field of payload `p` at offset `o` (30_encoding.md R74). -/
def field24 (p : Memory) (o : Nat) : U24 := be24 (p.read o) (p.read (o + 1)) (p.read (o + 2))

/-- X of a packed stick value: `(v >> 12) & 0xFFF = v[23:12]` (30_encoding.md R75). -/
def axisX (v : U24) : U12 := v.extractLsb' 12 12

/-- Y of a packed stick value: `v & 0xFFF = v[11:0]` (30_encoding.md R75). -/
def axisY (v : U24) : U12 := v.extractLsb' 0 12

/-- Button slot `i` is pressed (41_decoder.md R150), reserved slots included. -/
def pressed (buttons : U24) (i : Nat) : Bool := buttons.getLsbD i

/-- Payload byte `i` as the host sees it: 0 at and above FRAME_LEN (43_host_bus.md R204). -/
def payloadLane (f : FrameRegs) (i : Nat) : Byte :=
  if i < f.frameLen.toNat then f.framebuf.read i else 0x00#8

/-- PAYLOAD word `k`: byte `4k + j` in bits `[8j+7 : 8j]` (20_memory.md R53; 43_host_bus.md R204). -/
def payloadWord (f : FrameRegs) (k : Nat) : Word :=
  payloadLane f (4 * k + 3) ++ payloadLane f (4 * k + 2) ++ payloadLane f (4 * k + 1) ++ payloadLane f (4 * k)

/-- `sat32(v)` (00_scope.md R13). -/
def sat32 (v : Nat) : Word := BitVec.ofNat 32 (min v (2 ^ 32 - 1))

end Sys2Proof.Machine
end

