-- ==== Sys2Proof/Machine/Flags.lean ====
section
/-! DEFINITION. Event bits, cause codes, state codes, the STATUS word, the interrupt line, the EVENTS composition and
the timeout predicate. -/

namespace Sys2Proof.Machine

/-- EVENTS bit 0, FRAME_OK (60_exceptions.md R230; 30_encoding.md R82). -/
def evFrameOk : BitVec 6 := 0b000001#6

/-- The EVENTS bit of an error (60_exceptions.md R230): LEN_TMO 1, PAY_TMO 2, MISMATCH 3, TOO_SHORT 4, FATAL 5. -/
def ErrKind.eventBit : ErrKind → BitVec 6
  | .lengthTimeout => 0b000010#6
  | .payloadTimeout => 0b000100#6
  | .frameMismatch => 0b001000#6
  | .payloadTooShort => 0b010000#6
  | .fatal => 0b100000#6

/-- The LAST_ERR code of an error (60_exceptions.md R230). -/
def ErrKind.code : ErrKind → BitVec 3
  | .lengthTimeout => 1#3
  | .payloadTimeout => 2#3
  | .frameMismatch => 3#3
  | .payloadTooShort => 4#3
  | .fatal => 5#3

/-- The 3 bits of LAST_ERR: 0 is none since reset (10_state.md R31). -/
def lastErrCode : Option ErrKind → BitVec 3
  | none => 0#3
  | some k => k.code

/-- The 3 bits of `fsm` (10_state.md R22). -/
def RxState.code : RxState → BitVec 3
  | .hunt => 0#3
  | .len => 1#3
  | .payload => 2#3
  | .endMark => 3#3
  | .halt => 4#3

/-- One flag as one bit. -/
def flagBit (b : Bool) : BitVec 1 := if b then 1#1 else 0#1

/-- The STATUS register: STATE 2:0, FRAME_VALID 3, DEC_VALID 4, reserved 7:5, LAST_ERR 10:8, reserved 31:11
(30_encoding.md R82; 43_host_bus.md R184). -/
def statusWord (s : State) : Word :=
  0#21 ++ lastErrCode s.log.lastErr ++ 0#3 ++ flagBit s.dec.decValid ++ flagBit s.frame.frameValid ++ s.rx.fsm.code

/-- `irq = OR(EVENTS & IRQ_EN)` (60_exceptions.md R238). -/
def irqLine (s : State) : Bool := decide (s.log.events &&& s.ctrl.irqEn ≠ 0#6)

/-- Write one to clear: `EVENTS & ~clr` (43_host_bus.md R187). -/
def w1c (events clr : BitVec 6) : BitVec 6 := events &&& ~~~clr

/-- The timeout predicate: `TIMEOUT ≠ 0` and `tmr + 1 ≥ TIMEOUT`, without wrap (40_frame_receiver.md R101). -/
def expired (s : State) : Bool :=
  decide (s.ctrl.timeout ≠ 0#32) && decide (s.ctrl.timeout.toNat ≤ s.rx.tmr.toNat + 1)

end Sys2Proof.Machine
end

