-- ==== Sys2Proof/Machine/Ops.lean ====
section
/-! DEFINITION. The named operations over the buffers and registers, and the error entries of 60_exceptions.md R231 to
R234 as one shared operation. There is no return-from-error operation (R236). -/

namespace Sys2Proof.Machine

/-- Writes byte `b` at index `a`, keeping the canonical form: indices strictly rise and no entry equals
`unlistedByte`. -/
def Memory.write : Memory → Nat → Byte → Memory
  | [], a, b => if b = unlistedByte then [] else [(a, b)]
  | (k, v) :: rest, a, b =>
    if a < k then (if b = unlistedByte then (k, v) :: rest else (a, b) :: (k, v) :: rest)
    else if a = k then (if b = unlistedByte then rest else (a, b) :: rest)
    else (k, v) :: Memory.write rest a b

/-- The canonical form from index `lo` on. -/
def Memory.wfFrom : Nat → Memory → Bool
  | _, [] => true
  | lo, (k, v) :: rest =>
    decide (lo ≤ k) && decide (k < bufferSize) && decide (v ≠ unlistedByte) && Memory.wfFrom (k + 1) rest

/-- The canonical form of a buffer: indices strictly rise, each below 256, and no entry equals `unlistedByte`. -/
def Memory.wf (m : Memory) : Bool := Memory.wfFrom 0 m

/-- `for i in 0 .. n − 1 : dst[i] <- src[i]` (40_frame_receiver.md R115). -/
def Memory.copy : Nat → Memory → Memory → Memory
  | 0, _, dst => dst
  | n + 1, src, dst => (Memory.copy n src dst).write n (src.read n)

/-- `E <- E ∪ { e }` (00_scope.md R13; 60_exceptions.md R231). -/
def State.addEvent (s : State) (e : BitVec 6) : State := { s with out.ev := s.out.ev ||| e }

/-- `LAST_ERR <- code(k)` (60_exceptions.md R231 to R233). -/
def State.setLastErr (s : State) (k : ErrKind) : State := { s with log.lastErr := some k }

/-- `fsm <- f; tmr <- 0; rx_len <- 0; rx_idx <- 0`: the attempt ends, in HUNT or in HALT (60_exceptions.md R231, R233;
40_frame_receiver.md R112; 43_host_bus.md R183). -/
def State.endAttempt (s : State) (f : RxState) : State :=
  { s with rx := { s.rx with fsm := f, tmr := 0#32, rxLen := 0#8, rxIdx := 0#8 } }

/-- `rdata <- v` (43_host_bus.md R180). -/
def State.respond (s : State) (v : Word) : State := { s with out.busRdata := v }

/-- `raise K()`: the error entry (60_exceptions.md R231 for the three receiver errors, R232 for PayloadTooShort, R233
for Fatal). The event joins the cycle's event set, LAST_ERR takes the code; a receiver error ends the attempt in HUNT, a
fatal error ends it in HALT, a short payload clears DEC_VALID and changes no receiver state. -/
def raise (k : ErrKind) (s : State) : State :=
  let t := (s.addEvent k.eventBit).setLastErr k
  match k with
  | .lengthTimeout | .payloadTimeout | .frameMismatch => t.endAttempt .hunt
  | .payloadTooShort => { t with dec.decValid := false }
  | .fatal => t.endAttempt .halt

/-- `signal FRAME_OK`: not an error, LAST_ERR is not written (60_exceptions.md R234). -/
def signalFrameOk (s : State) : State := s.addEvent evFrameOk

end Sys2Proof.Machine
end

