-- ==== Sys2Proof/Machine/HostBus.lean ====
section
/-! DEFINITION. The host register operations (43_host_bus.md): the BUS operations. A read answers from the state it is
run in; Machine/Cycle.lean runs reads on the state at the start of the cycle (R181) and writes after the stream and rate
phases (R180). A write answers 0 on `bus_rdata` (R180). -/

namespace Sys2Proof.Machine

/-- The bus answer of a read. -/
def readAnswer (v : Word) (s : State) : Host.Outcome State Fault Refusal := .next (s.respond v)

/-- A write that the register ignores: no state changes, `rdata <- 0` (R57, R180). -/
def ignoredWrite (s : State) : Host.Outcome State Fault Refusal := .next (s.respond 0#32)

/-- BUS.NOP (R208): `rdata <- 0`; no state changes. -/
def execBusNop (s : State) : Host.Outcome State Fault Refusal := .next (s.respond 0#32)

/-- RD.CTRL (R182): `zext_32(CTRL.EN)`. -/
def execRdCtrl (s : State) : Host.Outcome State Fault Refusal := readAnswer ((flagBit s.ctrl.en).setWidth 32) s

/-- WR.CTRL (R183): EN takes WDATA[0]; a 0 discards an attempt in progress, without an event, unless the receiver is in
HALT after this cycle's stream phase. -/
def execWrCtrl (v : Word) (s : State) : Host.Outcome State Fault Refusal :=
  let t : State := { s.respond 0#32 with ctrl.en := v.getLsbD 0 }
  .next (if v.getLsbD 0 = false ∧ s.rx.fsm ≠ .halt then t.endAttempt .hunt else t)

/-- RD.STATUS (R184). -/
def execRdStatus (s : State) : Host.Outcome State Fault Refusal := readAnswer (statusWord s) s

/-- WR.STATUS: ignored (R185). -/
def execWrStatus (_v : Word) (s : State) : Host.Outcome State Fault Refusal := ignoredWrite s

/-- RD.EVENTS (R186); the read clears nothing. -/
def execRdEvents (s : State) : Host.Outcome State Fault Refusal := readAnswer (s.log.events.setWidth 32) s

/-- WR.EVENTS (R187): write one to clear; the cycle's event set joins EVENTS after it (`endCycle`), so a set wins. -/
def execWrEvents (v : Word) (s : State) : Host.Outcome State Fault Refusal :=
  .next { s.respond 0#32 with log.events := w1c s.log.events (v.extractLsb' 0 6) }

/-- RD.IRQ_EN (R188). -/
def execRdIrqEn (s : State) : Host.Outcome State Fault Refusal := readAnswer (s.ctrl.irqEn.setWidth 32) s

/-- WR.IRQ_EN (R189). -/
def execWrIrqEn (v : Word) (s : State) : Host.Outcome State Fault Refusal :=
  .next { s.respond 0#32 with ctrl.irqEn := v.extractLsb' 0 6 }

/-- RD.TIMEOUT (R190). -/
def execRdTimeout (s : State) : Host.Outcome State Fault Refusal := readAnswer s.ctrl.timeout s

/-- WR.TIMEOUT (R191); `tmr` is not reset. -/
def execWrTimeout (v : Word) (s : State) : Host.Outcome State Fault Refusal :=
  .next { s.respond 0#32 with ctrl.timeout := v }

/-- RD.FRAME_LEN (R192). -/
def execRdFrameLen (s : State) : Host.Outcome State Fault Refusal := readAnswer (s.frame.frameLen.setWidth 32) s

/-- WR.FRAME_LEN: ignored (R193). -/
def execWrFrameLen (_v : Word) (s : State) : Host.Outcome State Fault Refusal := ignoredWrite s

/-- RD.BUTTONS (R194). -/
def execRdButtons (s : State) : Host.Outcome State Fault Refusal := readAnswer (s.dec.buttons.setWidth 32) s

/-- WR.BUTTONS: ignored (R195). -/
def execWrButtons (_v : Word) (s : State) : Host.Outcome State Fault Refusal := ignoredWrite s

/-- RD.LSTICK (R196). -/
def execRdLstick (s : State) : Host.Outcome State Fault Refusal := readAnswer (s.dec.lstick.setWidth 32) s

/-- WR.LSTICK: ignored (R197). -/
def execWrLstick (_v : Word) (s : State) : Host.Outcome State Fault Refusal := ignoredWrite s

/-- RD.RSTICK (R198). -/
def execRdRstick (s : State) : Host.Outcome State Fault Refusal := readAnswer (s.dec.rstick.setWidth 32) s

/-- WR.RSTICK: ignored (R199). -/
def execWrRstick (_v : Word) (s : State) : Host.Outcome State Fault Refusal := ignoredWrite s

/-- RD.FPS (R200): the snapshot of the last window boundary, not the live count (42_rate_tracker.md R166). -/
def execRdFps (s : State) : Host.Outcome State Fault Refusal := readAnswer s.trk.fps s

/-- WR.FPS: ignored (R201). -/
def execWrFps (_v : Word) (s : State) : Host.Outcome State Fault Refusal := ignoredWrite s

/-- RD.ELAPSED (R202). -/
def execRdElapsed (s : State) : Host.Outcome State Fault Refusal := readAnswer s.trk.elapsed s

/-- WR.ELAPSED: ignored (R203). -/
def execWrElapsed (_v : Word) (s : State) : Host.Outcome State Fault Refusal := ignoredWrite s

/-- RD.PAYLOAD[k] (R204). -/
def execRdPayload (k : BitVec 6) (s : State) : Host.Outcome State Fault Refusal :=
  readAnswer (payloadWord s.frame k.toNat) s

/-- WR.PAYLOAD[k]: ignored (R205). -/
def execWrPayload (_k : BitVec 6) (_v : Word) (s : State) : Host.Outcome State Fault Refusal := ignoredWrite s

/-- RD.RSVD (R206): reserved addresses read 0. -/
def execRdRsvd (_a : BitVec 10) (s : State) : Host.Outcome State Fault Refusal := readAnswer 0#32 s

/-- WR.RSVD: ignored (R207). -/
def execWrRsvd (_a : BitVec 10) (_v : Word) (s : State) : Host.Outcome State Fault Refusal := ignoredWrite s

end Sys2Proof.Machine
end

