-- ==== Sys2Proof/Machine/Decoder.lean ====
section
/-! DEFINITION. The payload decoder (41_decoder.md). It runs once, in the commit cycle, on the payload just
committed. -/

namespace Sys2Proof.Machine

/-- `Decode(p, L)` (41_decoder.md R140): a payload shorter than 12 bytes raises PayloadTooShort and decodes nothing
(R141); else the three fields are replaced as a whole (R142 to R144, R149) and DEC_VALID is set (R145). -/
def decodePayload (p : Memory) (l : Byte) (s : State) : State :=
  if l.toNat < minDecodeLen then raise .payloadTooShort s
  else
    { s with dec :=
      { buttons := field24 p buttonsOffset
        lstick := field24 p lstickOffset
        rstick := field24 p rstickOffset
        decValid := true } }

end Sys2Proof.Machine
end

