-- ==== Sys2Proof/Machine/Receiver.lean ====
section
/-! DEFINITION. The frame receiver: the STREAM operations (40_frame_receiver.md). Each meaning is the stream phase of a
cycle (00_scope.md R9); what the cycle does around it is Machine/Cycle.lean. -/

namespace Sys2Proof.Machine

/-- The cycle stays in the timed state: `tmr <- sat32(tmr + 1)` (R109, R110, R111, R114). -/
def tickTimer (s : State) : State := { s with rx.tmr := sat32 (s.rx.tmr.toNat + 1) }

/-- HUNT, byte `0xAA` (R105). -/
def startAttempt (s : State) : State := { s with rx := { s.rx with fsm := .len, tmr := 0#32 } }

/-- LEN, byte `d`: the length (R108); a length of 0 goes straight to END. -/
def takeLength (d : Byte) (s : State) : State :=
  { s with rx :=
    { s.rx with rxLen := d, rxIdx := 0#8, tmr := 0#32, fsm := if d = 0#8 then .endMark else .payload } }

/-- A timed state with no byte: the timeout `k` when it has expired, else the timer advances (R109, R111, R114). -/
def waitTimed (k : ErrKind) (s : State) : State := if expired s then raise k s else tickTimer s

/-- PAYLOAD, byte `d` (R110): stored at `rx_idx`; the byte that completes the payload wins over the timeout, any other
does not stop it. -/
def takePayload (d : Byte) (s : State) : State :=
  let t : State := { s with rx.rxbuf := s.rx.rxbuf.write s.rx.rxIdx.toNat d }
  if s.rx.rxIdx.toNat + 1 = s.rx.rxLen.toNat then
    { t with rx := { t.rx with rxIdx := s.rx.rxIdx + 1#8, tmr := 0#32, fsm := .endMark } }
  else if expired s then raise .payloadTimeout t
  else tickTimer { t with rx.rxIdx := s.rx.rxIdx + 1#8 }

/-- Commit (R115): the received payload becomes the committed frame and is decoded. -/
def commit (s : State) : State :=
  let t : State := { s with frame :=
    { framebuf := Memory.copy s.rx.rxLen.toNat s.rx.rxbuf s.frame.framebuf
      frameLen := s.rx.rxLen
      frameValid := true } }
  decodePayload s.rx.rxbuf s.rx.rxLen { signalFrameOk t with committed := true }

/-- END, byte `0xBB` (R112): commit, then back to HUNT. -/
def acceptFrame (s : State) : State := (commit s).endAttempt .hunt

/-- StreamPhase for RXFAULT (R100): in HALT nothing happens (R104); else Fatal, whatever CTRL.EN holds (R102). -/
def rxFaultPhase (s : State) : State := if s.rx.fsm = .halt then s else raise .fatal s

/-- StreamPhase for RXBYTE `d` (R100): R104 in HALT, R103 while disabled, else by state R105, R106, R108, R110, R112,
R113. -/
def rxBytePhase (d : Byte) (s : State) : State :=
  if s.rx.fsm = .halt then s
  else if s.ctrl.en = false then s
  else
    match s.rx.fsm with
    | .hunt => if d = sof then startAttempt s else s
    | .len => takeLength d s
    | .payload => takePayload d s
    | .endMark => if d = eof then acceptFrame s else raise .frameMismatch s
    | .halt => s

/-- StreamPhase for RXIDLE (R100): R104 in HALT, R103 while disabled, else by state R107, R109, R111, R114. -/
def rxIdlePhase (s : State) : State :=
  if s.rx.fsm = .halt then s
  else if s.ctrl.en = false then s
  else
    match s.rx.fsm with
    | .hunt => s
    | .len => waitTimed .lengthTimeout s
    | .payload => waitTimed .payloadTimeout s
    | .endMark => waitTimed .frameMismatch s
    | .halt => s

/-- RXFAULT (R102, R104). -/
def execRxFault (s : State) : Host.Outcome State Fault Refusal := .next (rxFaultPhase s)

/-- RXBYTE `d` (R100). -/
def execRxByte (d : Byte) (s : State) : Host.Outcome State Fault Refusal := .next (rxBytePhase d s)

/-- RXIDLE (R100). -/
def execRxIdle (s : State) : Host.Outcome State Fault Refusal := .next (rxIdlePhase s)

end Sys2Proof.Machine
end

