-- ==== Sys2Proof/Machine/Reset.lean ====
section
/-! DEFINITION. The CTL operation RESET (70_reset_and_hazards.md R260). -/

namespace Sys2Proof.Machine

/-- RESET (R260): every state element takes its reset value and every output is 0. The parameters are no state (10_state.md
R39) and the inputs of later cycles are the environment's; both are kept. -/
def execReset (s : State) : Host.Outcome State Fault Refusal :=
  .next (State.resetWith s.params s.inputs s.draws)

end Sys2Proof.Machine
end

