-- ==== Sys2Proof/Machine/Dispatch.lean ====
section
/-! DEFINITION. One arm per operation of spec/opcode_table.json. An arm is what its operation does in its phase of the
cycle; Machine/Cycle.lean composes the cycle. -/

namespace Sys2Proof.Machine

def exec (i : Instr) (s : State) : Host.Outcome State Fault Refusal :=
  match i with
  | .reset => Sys2Proof.Machine.execReset s
  | .rxFault => Sys2Proof.Machine.execRxFault s
  | .rxByte d => Sys2Proof.Machine.execRxByte d s
  | .rxIdle => Sys2Proof.Machine.execRxIdle s
  | .busNop => Sys2Proof.Machine.execBusNop s
  | .rdCtrl => Sys2Proof.Machine.execRdCtrl s
  | .wrCtrl v => Sys2Proof.Machine.execWrCtrl v s
  | .rdStatus => Sys2Proof.Machine.execRdStatus s
  | .wrStatus v => Sys2Proof.Machine.execWrStatus v s
  | .rdEvents => Sys2Proof.Machine.execRdEvents s
  | .wrEvents v => Sys2Proof.Machine.execWrEvents v s
  | .rdIrqEn => Sys2Proof.Machine.execRdIrqEn s
  | .wrIrqEn v => Sys2Proof.Machine.execWrIrqEn v s
  | .rdTimeout => Sys2Proof.Machine.execRdTimeout s
  | .wrTimeout v => Sys2Proof.Machine.execWrTimeout v s
  | .rdFrameLen => Sys2Proof.Machine.execRdFrameLen s
  | .wrFrameLen v => Sys2Proof.Machine.execWrFrameLen v s
  | .rdButtons => Sys2Proof.Machine.execRdButtons s
  | .wrButtons v => Sys2Proof.Machine.execWrButtons v s
  | .rdLstick => Sys2Proof.Machine.execRdLstick s
  | .wrLstick v => Sys2Proof.Machine.execWrLstick v s
  | .rdRstick => Sys2Proof.Machine.execRdRstick s
  | .wrRstick v => Sys2Proof.Machine.execWrRstick v s
  | .rdFps => Sys2Proof.Machine.execRdFps s
  | .wrFps v => Sys2Proof.Machine.execWrFps v s
  | .rdElapsed => Sys2Proof.Machine.execRdElapsed s
  | .wrElapsed v => Sys2Proof.Machine.execWrElapsed v s
  | .rdPayload k => Sys2Proof.Machine.execRdPayload k s
  | .wrPayload k v => Sys2Proof.Machine.execWrPayload k v s
  | .rdRsvd a => Sys2Proof.Machine.execRdRsvd a s
  | .wrRsvd a v => Sys2Proof.Machine.execWrRsvd a v s

end Sys2Proof.Machine
end

