-- ==== Sys2Proof/Machine/Tracker.lean ====
section
/-! DEFINITION. The rate and uptime tracker: RatePhase of 00_scope.md R9 (42_rate_tracker.md). It runs in every cycle
with `rst = 0`, whatever CTRL.EN holds and also in HALT (R168). -/

namespace Sys2Proof.Machine

/-- Uptime tick (R161). -/
def uptimeTick (tps : Nat) (k : Tracker) : Tracker :=
  if k.presc.toNat + 1 = tps then { k with presc := 0#32, elapsed := k.elapsed + 1#32 }
  else { k with presc := k.presc + 1#32 }

/-- Window ageing, a cycle with no commit (R162): `win_age <- min(win_age + 1, TICKS_PER_SEC)`. -/
def ageWindow (tps : Nat) (k : Tracker) : Tracker :=
  { k with winAge := BitVec.ofNat 32 (min (k.winAge.toNat + 1) tps) }

/-- `on_frame_success`, a cycle with a commit (R163): the increment comes before the test, and the frame that closes a
window is counted in it (90_conflicts.md C1). -/
def frameSuccess (tps : Nat) (k : Tracker) : Tracker :=
  let n := k.winCount + 1#32
  if tps ≤ k.winAge.toNat then { k with fps := n, winCount := 0#32, winAge := 1#32 }
  else { ageWindow tps k with winCount := n }

/-- RatePhase (00_scope.md R9; 42_rate_tracker.md R160). -/
def ratePhase (s : State) : State :=
  let tps := s.params.ticksPerSec
  { s with trk := if s.committed then frameSuccess tps (uptimeTick tps s.trk) else ageWindow tps (uptimeTick tps s.trk) }

end Sys2Proof.Machine
end

