-- ==== Sys2Proof/Machine/Cycle.lean ====
section
/-! DEFINITION. One cycle (00_scope.md R9) as a composition of the operations its input vector presents. The order of
evaluation is: the outputs and a host read are taken from the state at the start of the cycle (R41, R181); then the stream
phase; then the rate phase; then a host write; then EVENTS is composed with the cycle's event set (R187). -/

namespace Sys2Proof.Machine

/-- The next phase of a cycle. -/
def andThen (o : Host.Outcome State Fault Refusal) (f : State → Host.Outcome State Fault Refusal) :
    Host.Outcome State Fault Refusal :=
  match o with
  | .next s => f s
  | .fault r => .fault r
  | .refused r => .refused r

/-- The start of a normal cycle: `E <- {}`, nothing committed yet, and the outputs that mirror the state at the start of
the cycle (R9, R41; 60_exceptions.md R238). -/
def beginCycle (s : State) : State :=
  { s with
    committed := false
    out :=
      { busRdata := 0#32, irq := irqLine s, ev := 0#6, buttons := s.dec.buttons, lstick := s.dec.lstick,
        rstick := s.dec.rstick, decValid := s.dec.decValid } }

/-- The end of a normal cycle: `EVENTS <- (EVENTS after any W1C) | E` (R9; 43_host_bus.md R187); the cycle index
advances (R10). -/
def endCycle (s : State) : State :=
  { s with log.events := s.log.events ||| s.out.ev, cycle := s.cycle + 1 }

/-- A normal cycle that presents the STREAM operation `i` and the BUS operation `j` (R9). -/
def normalCycle (i j : Instr) (s : State) : Host.Outcome State Fault Refusal :=
  if j.isRead then
    andThen (exec j (beginCycle s)) fun s1 => andThen (exec i s1) fun s2 => .next (endCycle (ratePhase s2))
  else
    andThen (exec i (beginCycle s)) fun s1 => andThen (exec j (ratePhase s1)) fun s2 => .next (endCycle s2)

/-- The cycle of the input vector `v`: CTL = 1 selects RESET and overrides the other words (30_encoding.md R78). -/
def runCycle (v : CycleIn) (s : State) : Host.Outcome State Fault Refusal :=
  match decode (.ctl v.ctl) with
  | .ok r => exec r s
  | .error _ => normalCycle (decodeStream v.stream) (decodeBus v.bus v.wdata) s

/-- The input vector of the coming cycle when none is listed: free (00_scope.md R8). Log entry 2. -/
def freeInput (n : Nat) : CycleIn :=
  { ctl := Config.freeCtl n, stream := Config.freeStream n, bus := Config.freeBus n, wdata := Config.freeWdata n }

/-- The input vector of the coming cycle: the next one listed, or else a free one. -/
def nextInput (s : State) : CycleIn := s.inputs.headD (freeInput s.draws)

/-- The coming cycle's input vector is taken from the environment: a presented byte is never presented again
(20_memory.md R58). -/
def consumeInput (s : State) : State :=
  { s with inputs := s.inputs.tail, draws := if s.inputs.isEmpty then s.draws + 1 else s.draws }

/-- Presents the table row's word `w` in the coming cycle, the other ports idle; a word outside every format cannot be
presented and changes nothing (U13). Log entries 1 and 3. -/
def presentTableWord (s : State) (nbits w : Nat) : State :=
  match tableWord nbits w with
  | .ok ow => { s with inputs := ow.toCycle :: s.inputs.tail }
  | .error _ => s

end Sys2Proof.Machine
end

