-- ==== Sys2Proof/Machine/Step.lean ====
section
/-! DEFINITION. One step is one cycle (00_scope.md R8, R9). -/

namespace Sys2Proof.Machine

/-- One cycle: the coming input vector is taken and its operations run. -/
def step (s : State) : Host.Outcome State Fault Refusal := runCycle (nextInput s) (consumeInput s)

/-- `s` with the operation word `w` of a table row presented in the coming cycle. -/
def State.withFetchWord (s : State) (nbits w : Nat) : State := presentTableWord s nbits w

end Sys2Proof.Machine
end

