-- ==== Sys2Proof/Safety.lean ====
section
/-! DEFINITION. The terms claims use: the invariant of the machine, the uptime invariant, and the input vectors of the
spec's trace syntax. -/

namespace Sys2Proof.Machine

/-- What holds between cycles of every state the machine reaches. -/
structure Inv (s : State) : Prop where
  /-- RXBUF is in canonical form. -/
  rxbufForm : Memory.wf s.rx.rxbuf = true
  /-- FRAMEBUF is in canonical form. -/
  framebufForm : Memory.wf s.frame.framebuf = true
  /-- Entry 255 of RXBUF is never written (10_state.md R26). -/
  rxbufTop : s.rx.rxbuf.read 255 = unlistedByte
  /-- In HUNT and in HALT no attempt is in progress (60_exceptions.md R231, R233; 40_frame_receiver.md R116). -/
  idle : s.rx.fsm = .hunt ∨ s.rx.fsm = .halt → s.rx.tmr = 0#32 ∧ s.rx.rxLen = 0#8 ∧ s.rx.rxIdx = 0#8
  /-- In LEN no length and no payload byte has been taken. -/
  awaitingLength : s.rx.fsm = .len → s.rx.rxLen = 0#8 ∧ s.rx.rxIdx = 0#8
  /-- In PAYLOAD bytes are missing (R110), and at most one arrived a cycle (R118). -/
  receiving : s.rx.fsm = .payload → s.rx.rxIdx.toNat < s.rx.rxLen.toNat ∧ s.rx.rxIdx.toNat ≤ s.rx.tmr.toNat
  /-- In END the payload is complete. -/
  complete : s.rx.fsm = .endMark → s.rx.rxIdx = s.rx.rxLen
  /-- A disabled receiver is in HUNT, or in HALT (R103; 43_host_bus.md R183). -/
  disabled : s.ctrl.en = false → s.rx.fsm = .hunt ∨ s.rx.fsm = .halt
  /-- HALT is where a fatal error leads and the only place after one (R102, R104; 60_exceptions.md R233). -/
  halted : s.rx.fsm = .halt ↔ s.log.lastErr = some .fatal
  /-- Nothing committed: FRAME_LEN and DEC_VALID are 0 (10_state.md R27, R28). -/
  uncommitted : s.frame.frameValid = false → s.frame.frameLen = 0#8 ∧ s.dec.decValid = false
  /-- DEC_VALID = 1: the decoded values are those of the frame in FRAMEBUF (41_decoder.md R145). -/
  decoded : s.dec.decValid = true →
    12 ≤ s.frame.frameLen.toNat ∧
    s.dec.buttons = be24 (s.frame.framebuf.read 3) (s.frame.framebuf.read 4) (s.frame.framebuf.read 5) ∧
    s.dec.lstick = be24 (s.frame.framebuf.read 6) (s.frame.framebuf.read 7) (s.frame.framebuf.read 8) ∧
    s.dec.rstick = be24 (s.frame.framebuf.read 9) (s.frame.framebuf.read 10) (s.frame.framebuf.read 11)
  /-- `presc < TICKS_PER_SEC` (10_state.md R37). -/
  prescBelow : s.trk.presc.toNat < s.params.ticksPerSec
  /-- `win_age` saturates at `TICKS_PER_SEC` (10_state.md R34). -/
  winAgeBound : s.trk.winAge.toNat ≤ s.params.ticksPerSec

/-- At the start of cycle `c`: `presc = c mod TICKS_PER_SEC`, `ELAPSED = floor(c / TICKS_PER_SEC) mod 2^32`
(42_rate_tracker.md R161). -/
def UptimeOfCycle (s : State) : Prop :=
  s.trk.presc.toNat = s.cycle % s.params.ticksPerSec ∧
  s.trk.elapsed.toNat = s.cycle / s.params.ticksPerSec % 2 ^ 32

/-- A safe run never stops: every step answers a next state. -/
def StepsOn (s : State) : Prop := ∃ t, step s = .next t

/-- The trace line `BYTE d` (30_encoding.md R87): no reset, no bus operation. -/
def byteCycle (d : Byte) : CycleIn := ⟨0#1, 0b01#2 ++ d, 0x0000#14, 0#32⟩

/-- The trace line `IDLE` (R87). -/
def idleCycle : CycleIn := ⟨0#1, 0x000#10, 0x0000#14, 0#32⟩

/-- A trace of `BYTE` and `IDLE` lines: `none` is an idle cycle (R87). -/
def traceCycle : Option Byte → CycleIn
  | none => idleCycle
  | some d => byteCycle d

/-- The bytes of `FRAME L: p` (R88): marker, length, payload, end marker. -/
def frameBytes (p : List Byte) : List Byte := 0xAA#8 :: BitVec.ofNat 8 p.length :: (p ++ [0xBB#8])

/-- The cycle commits: an enabled receiver in END accepts the end marker (40_frame_receiver.md R112). -/
def Commits (s : State) (v : CycleIn) : Prop :=
  v.ctl = 0#1 ∧ s.rx.fsm = .endMark ∧ s.ctrl.en = true ∧ decodeStream v.stream = .rxByte 0xBB#8

/-- Two states that agree in everything but buffer bytes the spec calls unspecified: RXBUF from `rx_idx` on and FRAMEBUF
from FRAME_LEN on (10_state.md R26, R27; D28). -/
structure SameButStaleBytes (s t : State) : Prop where
  rxbuf : ∀ i, i < s.rx.rxIdx.toNat → s.rx.rxbuf.read i = t.rx.rxbuf.read i
  framebuf : ∀ i, i < s.frame.frameLen.toNat → s.frame.framebuf.read i = t.frame.framebuf.read i
  rest : { s with rx.rxbuf := t.rx.rxbuf, frame.framebuf := t.frame.framebuf } = t

end Sys2Proof.Machine
end

