-- ==== Sys2Proof/Certificates/Slice0/Obligations.lean ====
section
/-! DEFINITION. The statements about the model. They come from the numbered rules of spec/; each docstring names the
rules and, where a clause rests on the model's own choice, the log entry. -/

open Sys2Proof Sys2Proof.Machine

/-! ## Encoding -/

/-- 30_encoding.md R79, R80, R83, R87: decoding an encoded well-formed operation gives it back, with every operand. -/
def Obligations.DecodeOfEncodeIsTheOperation : Prop :=
  ∀ i : Instr, i.wf = true → decode (encode i) = .ok i

/-- R84, R78: every STREAM and every BUS word selects one well-formed operation of its own format, CTL = 1 selects RESET
and CTL = 0 no operation of its own; none is illegal. -/
def Obligations.EveryWordSelectsAWellFormedOperation : Prop :=
  (∀ w : BitVec 10, ∃ i, decode (.stream w) = .ok i ∧ i.wf = true ∧ ∃ w', encode i = .stream w') ∧
  (∀ (w : BitVec 14) (v : Word), ∃ i, decode (.bus w v) = .ok i ∧ i.wf = true ∧ ∃ w' v', encode i = .bus w' v') ∧
  decode (.ctl 1#1) = .ok .reset ∧ decode (.ctl 0#1) = .error .normalStep

/-- The rows of spec/opcode_table.json that stand for one register: the match value under mask 0x3FFC. -/
def Sys2Proof.Claims.registerRows (v : Word) : List (BitVec 14 × Instr) :=
  [(0x2000#14, .rdCtrl), (0x3000#14, .wrCtrl v), (0x2004#14, .rdStatus), (0x3004#14, .wrStatus v),
   (0x2008#14, .rdEvents), (0x3008#14, .wrEvents v), (0x200C#14, .rdIrqEn), (0x300C#14, .wrIrqEn v),
   (0x2010#14, .rdTimeout), (0x3010#14, .wrTimeout v), (0x2014#14, .rdFrameLen), (0x3014#14, .wrFrameLen v)] ++
  [(0x2018#14, .rdButtons), (0x3018#14, .wrButtons v), (0x201C#14, .rdLstick), (0x301C#14, .wrLstick v),
   (0x2020#14, .rdRstick), (0x3020#14, .wrRstick v), (0x2024#14, .rdFps), (0x3024#14, .wrFps v),
   (0x2028#14, .rdElapsed), (0x3028#14, .wrElapsed v)]

/-- R83: the BUS decoder agrees with the match and mask of every row of spec/opcode_table.json, RSVD tried last. -/
def Obligations.BusDecodingFollowsTheOpcodeTable : Prop :=
  ∀ (w : BitVec 14) (v : Word),
    (w &&& 0x2000#14 = 0x0000#14 ↔ decodeBus w v = .busNop) ∧
    (∀ r ∈ Claims.registerRows v, (w &&& 0x3FFC#14 = r.1 ↔ decodeBus w v = r.2)) ∧
    (w &&& 0x3F00#14 = 0x2100#14 → decodeBus w v = .rdPayload (w.extractLsb' 2 6)) ∧
    (w &&& 0x3F00#14 = 0x3100#14 → decodeBus w v = .wrPayload (w.extractLsb' 2 6) v) ∧
    (w &&& 0x3000#14 = 0x2000#14 → (∀ r ∈ Claims.registerRows v, w &&& 0x3FFC#14 ≠ r.1) →
      w &&& 0x3F00#14 ≠ 0x2100#14 → decodeBus w v = .rdRsvd (w.extractLsb' 2 10)) ∧
    (w &&& 0x3000#14 = 0x3000#14 → (∀ r ∈ Claims.registerRows v, w &&& 0x3FFC#14 ≠ r.1) →
      w &&& 0x3F00#14 ≠ 0x3100#14 → decodeBus w v = .wrRsvd (w.extractLsb' 2 10) v)

/-- R79: F = 1 selects RXFAULT whatever V and D hold; F = 0, V = 1 selects RXBYTE with operand D; F = 0, V = 0 selects
RXIDLE. -/
def Obligations.StreamDecodingFollowsItsFields : Prop :=
  ∀ (d : Byte) (x : BitVec 1),
    decode (.stream (1#1 ++ x ++ d)) = .ok .rxFault ∧
    decode (.stream (0#1 ++ 1#1 ++ d)) = .ok (.rxByte d) ∧
    decode (.stream (0#1 ++ 0#1 ++ d)) = .ok .rxIdle

/-- R80, R84, 20_memory.md R55: address bits [1:0] are ignored; W, A and WDATA when S = 0; WDATA on a read. -/
def Obligations.IgnoredBusBitsSelectNothing : Prop :=
  (∀ (w w' : BitVec 14) (v : Word), w &&& 0x3FFC#14 = w' &&& 0x3FFC#14 → decodeBus w v = decodeBus w' v) ∧
  (∀ (w w' : BitVec 14) (v v' : Word), w.getLsbD 13 = false → w'.getLsbD 13 = false → decodeBus w v = decodeBus w' v') ∧
  (∀ (w : BitVec 14) (v v' : Word), (decodeBus w v).isRead = true → decodeBus w v' = decodeBus w v)

/-- Words of 95_test_vectors.md (P1, P2, VR20, VB8, VB10, VB17, VB18) decode to the operations named there. -/
def Obligations.SampleWordsDecode : Prop :=
  decode (.ctl 1#1) = .ok .reset ∧
  decode (.stream 0x1AA#10) = .ok (.rxByte 0xAA#8) ∧
  decode (.stream 0x3AA#10) = .ok .rxFault ∧
  decode (.stream 0x000#10) = .ok .rxIdle ∧
  decode (.bus 0x1FFF#14 0#32) = .ok .busNop ∧
  decode (.bus 0x3010#14 0x10#32) = .ok (.wrTimeout 0x10#32) ∧
  decode (.bus 0x2019#14 0#32) = .ok .rdButtons ∧
  decode (.bus 0x210C#14 0#32) = .ok (.rdPayload 3#6) ∧
  decode (.bus 0x3114#14 0xFFFFFFFF#32) = .ok (.wrPayload 5#6 0xFFFFFFFF#32) ∧
  decode (.bus 0x3800#14 1#32) = .ok (.wrRsvd 0x200#10 1#32)

/-! ## Reset and the cycle -/

/-- 70_reset_and_hazards.md R260, R261: RESET answers ResetState in every state; the outputs are 0 (10_state.md R41);
every PAYLOAD word then reads 0; a further RESET changes nothing. The parameters stay (R39). That the inputs of later
cycles are handed through is the model's choice (log entry 13). -/
def Obligations.ResetGivesResetState : Prop :=
  ∀ s : State, ∃ t, exec .reset s = .next t ∧
    t.rx.fsm = .hunt ∧ t.rx.rxLen = 0#8 ∧ t.rx.rxIdx = 0#8 ∧ t.rx.tmr = 0#32 ∧
    t.frame.frameLen = 0#8 ∧ t.frame.frameValid = false ∧
    t.dec = { buttons := 0#24, lstick := 0#24, rstick := 0#24, decValid := false } ∧
    t.log = { events := 0#6, lastErr := none } ∧
    t.ctrl = { en := true, timeout := s.params.timeoutReset, irqEn := 0#6 } ∧
    t.trk = { winAge := 0#32, winCount := 0#32, fps := 0#32, presc := 0#32, elapsed := 0#32 } ∧
    t.out = { busRdata := 0#32, irq := false, ev := 0#6, buttons := 0#24, lstick := 0#24, rstick := 0#24,
              decValid := false } ∧
    t.cycle = 0 ∧ t.params = s.params ∧ t.inputs = s.inputs ∧ t.draws = s.draws ∧
    (∀ k, exec (.rdPayload k) t = .next t) ∧
    exec .reset t = .next t

/-- R261, 00_scope.md R10: the machine right after reset holds the spec's reset values, and a RESET keeps it there. -/
def Obligations.StateResetIsResetState : Prop :=
  State.reset.rx.fsm = .hunt ∧ State.reset.rx.rxLen = 0#8 ∧ State.reset.rx.rxIdx = 0#8 ∧ State.reset.rx.tmr = 0#32 ∧
  State.reset.frame.frameLen = 0#8 ∧ State.reset.frame.frameValid = false ∧
  State.reset.dec = { buttons := 0#24, lstick := 0#24, rstick := 0#24, decValid := false } ∧
  State.reset.log = { events := 0#6, lastErr := none } ∧
  State.reset.ctrl = { en := true, timeout := State.reset.params.timeoutReset, irqEn := 0#6 } ∧
  State.reset.trk = { winAge := 0#32, winCount := 0#32, fps := 0#32, presc := 0#32, elapsed := 0#32 } ∧
  State.reset.cycle = 0 ∧
  exec .reset State.reset = .next State.reset

/-- 30_encoding.md R78: a step runs what the coming input vector presents. CTL = 1 runs RESET whatever the other words hold;
CTL = 0 runs the STREAM operation and the BUS operation in one cycle, with the values of 00_scope.md R9. How the cycle is put
together is the model's choice (log entry 4): `exec` is one operation's phase, `beginCycle` takes the outputs, and a host read
is run first, on the state at the start of the cycle, where R9 lists the bus phase last and has it read that same state; then
come the stream phase, the rate phase, a host write, and the composition of EVENTS (`endCycle`). That the vector stands in a
list and is taken off it is the model's choice too (log entry 2). -/
def Obligations.StepRunsThePresentedOperations : Prop :=
  ∀ (s : State) (v : CycleIn) (rest : List CycleIn), s.inputs = v :: rest →
    (v.ctl = 1#1 → step s = exec .reset { s with inputs := rest }) ∧
    (∀ i j, v.ctl = 0#1 → decode (.stream v.stream) = .ok i → decode (.bus v.bus v.wdata) = .ok j →
      step s =
        if j.isRead then
          andThen (exec j (beginCycle { s with inputs := rest })) fun s1 =>
          andThen (exec i s1) fun s2 => .next (endCycle (ratePhase s2))
        else
          andThen (exec i (beginCycle { s with inputs := rest })) fun s1 =>
          andThen (exec j (ratePhase s1)) fun s2 => .next (endCycle s2))

/-- R84, 43_host_bus.md R180: no input vector is illegal and none traps; in every state, whatever inputs are listed and
whatever the free inputs are, the step answers a next state. -/
def Obligations.EveryStepAnswersANextState : Prop :=
  ∀ s : State, StepsOn s

/-! ## The frame receiver -/

/-- 40_frame_receiver.md R102, 60_exceptions.md R233: outside HALT, whatever CTRL.EN holds, RXFAULT enters HALT, clears
the attempt, records code 5 and adds FATAL (bit 5) to the cycle's event set; nothing else changes. -/
def Obligations.FaultEntersHalt : Prop :=
  ∀ s : State, s.rx.fsm ≠ .halt →
    exec .rxFault s = .next { s with
      rx.fsm := .halt, rx.tmr := 0#32, rx.rxLen := 0#8, rx.rxIdx := 0#8,
      log.lastErr := some .fatal, out.ev := s.out.ev ||| 0b100000#6 }

/-- R104: in HALT no STREAM operation changes anything. -/
def Obligations.HaltIgnoresEveryStreamOperation : Prop :=
  ∀ (s : State) (d : Byte), s.rx.fsm = .halt →
    exec .rxFault s = .next s ∧ exec (.rxByte d) s = .next s ∧ exec .rxIdle s = .next s

/-- R103: a disabled receiver drops bytes, even `0xAA`, and runs no timeout. -/
def Obligations.DisabledReceiverDropsBytes : Prop :=
  ∀ (s : State) (d : Byte), s.ctrl.en = false → exec (.rxByte d) s = .next s ∧ exec .rxIdle s = .next s

/-- R105, R106, R107: in HUNT `0xAA` starts an attempt, any other byte is discarded, an idle cycle changes nothing. -/
def Obligations.HuntScansForTheStartMarker : Prop :=
  ∀ (s : State) (d : Byte), s.rx.fsm = .hunt → s.ctrl.en = true →
    (d = 0xAA#8 → exec (.rxByte d) s = .next { s with rx.fsm := .len, rx.tmr := 0#32 }) ∧
    (d ≠ 0xAA#8 → exec (.rxByte d) s = .next s) ∧
    exec .rxIdle s = .next s

/-- R108: in LEN every byte is taken as the length; a length of 0 goes straight to END. -/
def Obligations.LengthByteIsTaken : Prop :=
  ∀ (s : State) (d : Byte), s.rx.fsm = .len → s.ctrl.en = true →
    (d = 0#8 → exec (.rxByte d) s = .next { s with
      rx.rxLen := d, rx.rxIdx := 0#8, rx.tmr := 0#32, rx.fsm := .endMark }) ∧
    (d ≠ 0#8 → exec (.rxByte d) s = .next { s with
      rx.rxLen := d, rx.rxIdx := 0#8, rx.tmr := 0#32, rx.fsm := .payload })

/-- R109, R111, R114, with the timeout predicate R101: an idle cycle in a timed state raises that state's error when
`TIMEOUT ≠ 0` and `tmr + 1 ≥ TIMEOUT` (60_exceptions.md R231), else only advances `tmr`, saturating. -/
def Obligations.IdleTimedStateTimesOutOrTicks : Prop :=
  ∀ (s : State) (f : RxState) (k : ErrKind) (bit : BitVec 6),
    (f, k, bit) ∈ [(RxState.len, ErrKind.lengthTimeout, 0b000010#6), (.payload, .payloadTimeout, 0b000100#6),
                   (.endMark, .frameMismatch, 0b001000#6)] →
    s.rx.fsm = f → s.ctrl.en = true →
    (s.ctrl.timeout ≠ 0#32 → s.ctrl.timeout.toNat ≤ s.rx.tmr.toNat + 1 →
      exec .rxIdle s = .next { s with
        rx.fsm := .hunt, rx.tmr := 0#32, rx.rxLen := 0#8, rx.rxIdx := 0#8,
        log.lastErr := some k, out.ev := s.out.ev ||| bit }) ∧
    ((s.ctrl.timeout = 0#32 ∨ s.rx.tmr.toNat + 1 < s.ctrl.timeout.toNat) →
      ∃ n : Word, n.toNat = min (s.rx.tmr.toNat + 1) (2 ^ 32 - 1) ∧ exec .rxIdle s = .next { s with rx.tmr := n })

/-- R110: in PAYLOAD the byte is stored at `rx_idx` and nowhere else. The byte that completes the payload leads to END
even when the time has run out; any other byte does not stop the timeout. -/
def Obligations.PayloadByteIsStored : Prop :=
  ∀ (s : State) (d : Byte), s.rx.fsm = .payload → s.ctrl.en = true → Memory.wf s.rx.rxbuf = true →
    ∃ t, exec (.rxByte d) s = .next t ∧
      t.rx.rxbuf.read s.rx.rxIdx.toNat = d ∧
      (∀ a, a ≠ s.rx.rxIdx.toNat → t.rx.rxbuf.read a = s.rx.rxbuf.read a) ∧
      (s.rx.rxIdx.toNat + 1 = s.rx.rxLen.toNat →
        t = { s with rx.rxbuf := t.rx.rxbuf, rx.rxIdx := s.rx.rxIdx + 1#8, rx.tmr := 0#32, rx.fsm := .endMark }) ∧
      (s.rx.rxIdx.toNat + 1 ≠ s.rx.rxLen.toNat →
        s.ctrl.timeout ≠ 0#32 → s.ctrl.timeout.toNat ≤ s.rx.tmr.toNat + 1 →
        t = { s with rx.rxbuf := t.rx.rxbuf, rx.fsm := .hunt, rx.tmr := 0#32, rx.rxLen := 0#8, rx.rxIdx := 0#8,
                     log.lastErr := some .payloadTimeout, out.ev := s.out.ev ||| 0b000100#6 }) ∧
      (s.rx.rxIdx.toNat + 1 ≠ s.rx.rxLen.toNat →
        (s.ctrl.timeout = 0#32 ∨ s.rx.tmr.toNat + 1 < s.ctrl.timeout.toNat) →
        ∃ n : Word, n.toNat = min (s.rx.tmr.toNat + 1) (2 ^ 32 - 1) ∧
          t = { s with rx.rxbuf := t.rx.rxbuf, rx.rxIdx := s.rx.rxIdx + 1#8, rx.tmr := n })

/-- R113, 60_exceptions.md R231: in END any byte but `0xBB`, `0xAA` included, is consumed and raises FrameMismatch. -/
def Obligations.WrongEndMarkerIsAMismatch : Prop :=
  ∀ (s : State) (d : Byte), s.rx.fsm = .endMark → s.ctrl.en = true → d ≠ 0xBB#8 →
    exec (.rxByte d) s = .next { s with
      rx.fsm := .hunt, rx.tmr := 0#32, rx.rxLen := 0#8, rx.rxIdx := 0#8,
      log.lastErr := some .frameMismatch, out.ev := s.out.ev ||| 0b001000#6 }

/-- R112, R115: in END the byte `0xBB` commits: FRAMEBUF takes the payload's bytes and no other, FRAME_LEN its length,
FRAME_VALID is set, FRAME_OK (bit 0) is signalled, the receiver returns to HUNT. What Decode does beside it is the two
statements that follow. -/
def Obligations.EndMarkerCommitsTheFrame : Prop :=
  ∀ s : State, s.rx.fsm = .endMark → s.ctrl.en = true → Memory.wf s.frame.framebuf = true →
    ∃ t, exec (.rxByte 0xBB#8) s = .next t ∧
      (∀ i, i < s.rx.rxLen.toNat → t.frame.framebuf.read i = s.rx.rxbuf.read i) ∧
      (∀ i, s.rx.rxLen.toNat ≤ i → t.frame.framebuf.read i = s.frame.framebuf.read i) ∧
      t.frame.frameLen = s.rx.rxLen ∧ t.frame.frameValid = true ∧
      t.out.ev.getLsbD 0 = true ∧ t.committed = true ∧
      t.rx = { s.rx with fsm := .hunt, tmr := 0#32, rxLen := 0#8, rxIdx := 0#8 } ∧
      { t with rx := s.rx, frame := s.frame, dec := s.dec, log.lastErr := s.log.lastErr, out.ev := s.out.ev,
               committed := s.committed } = s

/-- 41_decoder.md R140 to R145, 30_encoding.md R74, R75, 20_memory.md R52: a commit of 12 or more bytes decodes the
big-endian fields at offsets 3, 6 and 9, sets DEC_VALID and raises nothing beyond FRAME_OK. -/
def Obligations.LongPayloadIsDecoded : Prop :=
  ∀ (s : State) (p : Nat → Nat), s.rx.fsm = .endMark → s.ctrl.en = true → 12 ≤ s.rx.rxLen.toNat →
    (∀ i, p i = (s.rx.rxbuf.read i).toNat) →
    ∃ t, exec (.rxByte 0xBB#8) s = .next t ∧ t.dec.decValid = true ∧
      t.dec.buttons.toNat = p 3 * 2 ^ 16 + p 4 * 2 ^ 8 + p 5 ∧
      (axisX t.dec.lstick).toNat = p 6 * 16 + p 7 / 16 ∧ (axisY t.dec.lstick).toNat = p 7 % 16 * 256 + p 8 ∧
      (axisX t.dec.rstick).toNat = p 9 * 16 + p 10 / 16 ∧ (axisY t.dec.rstick).toNat = p 10 % 16 * 256 + p 11 ∧
      t.log = s.log ∧ t.out.ev = s.out.ev ||| 0b000001#6

/-- 41_decoder.md R141, 60_exceptions.md R232: a commit of fewer than 12 bytes raises PayloadTooShort beside FRAME_OK,
clears DEC_VALID and leaves BUTTONS, LSTICK and RSTICK. -/
def Obligations.ShortPayloadIsRejected : Prop :=
  ∀ s : State, s.rx.fsm = .endMark → s.ctrl.en = true → s.rx.rxLen.toNat < 12 →
    ∃ t, exec (.rxByte 0xBB#8) s = .next t ∧
      t.dec = { s.dec with decValid := false } ∧
      t.log = { s.log with lastErr := some .payloadTooShort } ∧
      t.out.ev = s.out.ev ||| 0b010001#6 ∧ t.frame.frameLen = s.rx.rxLen ∧ t.committed = true

/-- 30_encoding.md R76, 41_decoder.md R150: after the commit of a long payload, button slot `i` is pressed exactly when
bit `i mod 8` of payload byte `5 − i / 8` is set, for all 24 slots, the reserved ones included. -/
def Obligations.ButtonSlotsFollowTheTable : Prop :=
  ∀ (s : State) (i : Nat), s.rx.fsm = .endMark → s.ctrl.en = true → 12 ≤ s.rx.rxLen.toNat → i < 24 →
    ∃ t, exec (.rxByte 0xBB#8) s = .next t ∧
      pressed t.dec.buttons i = (s.rx.rxbuf.read (5 - i / 8)).getLsbD (i % 8)

/-- 41_decoder.md R148, R146: the decoded values depend only on `p[3..11]`. -/
def Obligations.DecodingDependsOnlyOnItsBytes : Prop :=
  ∀ s s' : State, s.rx.fsm = .endMark → s.ctrl.en = true → 12 ≤ s.rx.rxLen.toNat →
    s'.rx.fsm = .endMark → s'.ctrl.en = true → 12 ≤ s'.rx.rxLen.toNat →
    (∀ i, 3 ≤ i → i ≤ 11 → s.rx.rxbuf.read i = s'.rx.rxbuf.read i) →
    ∃ t t', exec (.rxByte 0xBB#8) s = .next t ∧ exec (.rxByte 0xBB#8) s' = .next t' ∧ t.dec = t'.dec

/-- 40_frame_receiver.md R100 to R116, 10_state.md R42: what no STREAM operation writes, and what only a commit or only a
payload byte writes. -/
def Obligations.StreamOperationsFrame : Prop :=
  ∀ (s : State) (i : Instr) (d : Byte), i = .rxFault ∨ i = .rxByte d ∨ i = .rxIdle →
    ∃ t, exec i s = .next t ∧
      t.params = s.params ∧ t.ctrl = s.ctrl ∧ t.trk = s.trk ∧ t.log.events = s.log.events ∧
      t.inputs = s.inputs ∧ t.draws = s.draws ∧ t.cycle = s.cycle ∧ { t.out with ev := s.out.ev } = s.out ∧
      (∀ a, s.rx.rxLen.toNat ≤ a → t.frame.framebuf.read a = s.frame.framebuf.read a) ∧
      (¬ (s.rx.fsm = .endMark ∧ s.ctrl.en = true ∧ i = .rxByte 0xBB#8) →
        t.frame = s.frame ∧ t.dec = s.dec ∧ t.committed = s.committed) ∧
      (∀ a, a ≠ s.rx.rxIdx.toNat → t.rx.rxbuf.read a = s.rx.rxbuf.read a) ∧
      (¬ (s.rx.fsm = .payload ∧ s.ctrl.en = true ∧ i = .rxByte d) → t.rx.rxbuf = s.rx.rxbuf)

/-! ## The host bus: reads -/

/-- 43_host_bus.md R182, R188, R190: RD.CTRL, RD.IRQ_EN, RD.TIMEOUT answer the register; nothing else changes. -/
def Obligations.ControlReadsAnswerTheRegister : Prop :=
  ∀ s : State,
    (∃ r : Word, exec .rdCtrl s = .next { s with out.busRdata := r } ∧ r.toNat = if s.ctrl.en then 1 else 0) ∧
    (∃ r : Word, exec .rdIrqEn s = .next { s with out.busRdata := r } ∧ r.toNat = s.ctrl.irqEn.toNat) ∧
    exec .rdTimeout s = .next { s with out.busRdata := s.ctrl.timeout }

/-- R184, 30_encoding.md R82, 10_state.md R22, R31: RD.STATUS answers STATE in bits 2:0, FRAME_VALID in 3, DEC_VALID in 4,
LAST_ERR in 10:8, and 0 in every other bit; nothing else changes. -/
def Obligations.StatusReadPacksItsFields : Prop :=
  ∀ s : State, ∃ r : Word, exec .rdStatus s = .next { s with out.busRdata := r } ∧
    r.toNat =
      (match s.rx.fsm with | .hunt => 0 | .len => 1 | .payload => 2 | .endMark => 3 | .halt => 4) +
      (if s.frame.frameValid then 8 else 0) + (if s.dec.decValid then 16 else 0) +
      256 * (match s.log.lastErr with
        | none => 0 | some .lengthTimeout => 1 | some .payloadTimeout => 2 | some .frameMismatch => 3
        | some .payloadTooShort => 4 | some .fatal => 5)

/-- R186, R192: RD.EVENTS and RD.FRAME_LEN answer the register, zero-extended; the read clears nothing. -/
def Obligations.EventAndLengthReadsClearNothing : Prop :=
  ∀ s : State,
    (∃ r : Word, exec .rdEvents s = .next { s with out.busRdata := r } ∧ r.toNat = s.log.events.toNat) ∧
    (∃ r : Word, exec .rdFrameLen s = .next { s with out.busRdata := r } ∧ r.toNat = s.frame.frameLen.toNat)

/-- R194, R196, R198: the decoded registers read as numbers in bits 23:0 (20_memory.md R53), with X in bits 23:12 and Y in
bits 11:0 of the sticks. -/
def Obligations.DecodedReadsAnswerTheRegisters : Prop :=
  ∀ s : State,
    (∃ r : Word, exec .rdButtons s = .next { s with out.busRdata := r } ∧ r.toNat = s.dec.buttons.toNat) ∧
    (∃ r : Word, exec .rdLstick s = .next { s with out.busRdata := r } ∧
      r.toNat = 4096 * (axisX s.dec.lstick).toNat + (axisY s.dec.lstick).toNat) ∧
    (∃ r : Word, exec .rdRstick s = .next { s with out.busRdata := r } ∧
      r.toNat = 4096 * (axisX s.dec.rstick).toNat + (axisY s.dec.rstick).toNat)

/-- R200, R202, 42_rate_tracker.md R166: RD.FPS answers the snapshot, RD.ELAPSED the whole seconds; neither changes tracker
state. -/
def Obligations.TrackerReadsAnswerTheSnapshot : Prop :=
  ∀ s : State,
    exec .rdFps s = .next { s with out.busRdata := s.trk.fps } ∧
    exec .rdElapsed s = .next { s with out.busRdata := s.trk.elapsed }

/-- R204, 20_memory.md R53: PAYLOAD word `k` holds payload byte `4k + j` in bits [8j+7 : 8j]; a byte at or above FRAME_LEN
reads 0. -/
def Obligations.PayloadReadAnswersItsLanes : Prop :=
  ∀ (s : State) (k : BitVec 6), ∃ r : Word, exec (.rdPayload k) s = .next { s with out.busRdata := r } ∧
    ∀ j, j < 4 → r.toNat / 256 ^ j % 256 =
      if 4 * k.toNat + j < s.frame.frameLen.toNat then (s.frame.framebuf.read (4 * k.toNat + j)).toNat else 0

/-- R206, R208, R180: a reserved address and a cycle with no access read 0 and change no state. -/
def Obligations.ReservedReadsAndNoAccessAnswerZero : Prop :=
  ∀ (s : State) (a : BitVec 10),
    exec (.rdRsvd a) s = .next { s with out.busRdata := 0#32 } ∧
    exec .busNop s = .next { s with out.busRdata := 0#32 }

/-! ## The host bus: writes -/

/-- R185, R193, R195, R197, R199, R201, R203, R205, R207: a write to a read-only or reserved address changes no state. -/
def Obligations.ReadOnlyWritesAreIgnored : Prop :=
  ∀ (s : State) (v : Word) (k : BitVec 6) (a : BitVec 10) (i : Instr),
    i ∈ [Instr.wrStatus v, .wrFrameLen v, .wrButtons v, .wrLstick v, .wrRstick v, .wrFps v, .wrElapsed v,
         .wrPayload k v, .wrRsvd a v] →
    exec i s = .next { s with out.busRdata := 0#32 }

/-- R183: WR.CTRL sets EN from WDATA[0] only. A 0 takes the receiver to HUNT and discards the attempt, without an event,
unless it is in HALT. -/
def Obligations.ControlWriteSetsEnable : Prop :=
  ∀ (s : State) (v : Word),
    (v.toNat % 2 = 1 → exec (.wrCtrl v) s = .next { s with out.busRdata := 0#32, ctrl.en := true }) ∧
    (v.toNat % 2 = 0 → s.rx.fsm ≠ .halt → exec (.wrCtrl v) s = .next { s with
      out.busRdata := 0#32, ctrl.en := false,
      rx.fsm := .hunt, rx.tmr := 0#32, rx.rxLen := 0#8, rx.rxIdx := 0#8 }) ∧
    (v.toNat % 2 = 0 → s.rx.fsm = .halt → exec (.wrCtrl v) s = .next { s with
      out.busRdata := 0#32, ctrl.en := false })

/-- R187, 20_memory.md R63: WR.EVENTS clears each bit written as 1 and leaves the others; LAST_ERR and everything else
stay. -/
def Obligations.EventsWriteClearsWrittenOnes : Prop :=
  ∀ (s : State) (v : Word), ∃ e : BitVec 6,
    exec (.wrEvents v) s = .next { s with out.busRdata := 0#32, log.events := e } ∧
    ∀ i, i < 6 → e.getLsbD i = (s.log.events.getLsbD i && !v.getLsbD i)

/-- R189, R191: WR.IRQ_EN takes WDATA[5:0]; WR.TIMEOUT takes WDATA whole, and `tmr` is not reset. -/
def Obligations.ConfigurationWritesTakeTheOperand : Prop :=
  ∀ (s : State) (v : Word),
    (∃ e : BitVec 6, e.toNat = v.toNat % 64 ∧
      exec (.wrIrqEn v) s = .next { s with out.busRdata := 0#32, ctrl.irqEn := e }) ∧
    exec (.wrTimeout v) s = .next { s with out.busRdata := 0#32, ctrl.timeout := v }

/-! ## The cycle as a whole -/

/-- 60_exceptions.md R239, R230: a cycle raises at most one of FRAME_OK, LEN_TMO, PAY_TMO, MISMATCH and FATAL, TOO_SHORT only
together with FRAME_OK, and LAST_ERR is written exactly by the error raised. -/
def Obligations.ACycleRaisesAtMostOneEvent : Prop :=
  ∀ (s : State) (v : CycleIn) (rest : List CycleIn), s.inputs = v :: rest → v.ctl = 0#1 →
    ∃ t, step s = .next t ∧
      ((t.out.ev = 0b000000#6 ∧ t.log.lastErr = s.log.lastErr) ∨
       (t.out.ev = 0b000001#6 ∧ t.log.lastErr = s.log.lastErr) ∨
       (t.out.ev = 0b010001#6 ∧ t.log.lastErr = some .payloadTooShort) ∨
       (t.out.ev = 0b000010#6 ∧ t.log.lastErr = some .lengthTimeout) ∨
       (t.out.ev = 0b000100#6 ∧ t.log.lastErr = some .payloadTimeout) ∨
       (t.out.ev = 0b001000#6 ∧ t.log.lastErr = some .frameMismatch) ∨
       (t.out.ev = 0b100000#6 ∧ t.log.lastErr = some .fatal))

/-- 43_host_bus.md R187, 60_exceptions.md R240 (7): in every normal cycle, EVENTS becomes (EVENTS & ~clr) | E, with clr the
written ones of a WR.EVENTS and 0 else; a bit set by the hardware in the cycle of its clear stays set. -/
def Obligations.EventSetWinsOverClear : Prop :=
  ∀ (s : State) (v : CycleIn) (rest : List CycleIn) (clr : Word), s.inputs = v :: rest → v.ctl = 0#1 →
    (clr = v.wdata ∧ v.bus &&& 0x3FFC#14 = 0x3008#14 ∨ clr = 0#32 ∧ v.bus &&& 0x3FFC#14 ≠ 0x3008#14) →
    ∃ t, step s = .next t ∧
      ∀ i, i < 6 → t.log.events.getLsbD i =
        ((s.log.events.getLsbD i && !clr.getLsbD i) || t.out.ev.getLsbD i)

/-- R181, 20_memory.md R56: the answer of a host read is that of the read on the state at the start of the cycle. -/
def Obligations.BusReadSeesTheStartOfTheCycle : Prop :=
  ∀ (s : State) (v : CycleIn) (rest : List CycleIn), s.inputs = v :: rest → v.ctl = 0#1 →
    (decodeBus v.bus v.wdata).isRead = true →
    ∃ t u, step s = .next t ∧ exec (decodeBus v.bus v.wdata) s = .next u ∧ t.out.busRdata = u.out.busRdata

/-- 20_memory.md R57: no read has a side effect: the cycle with a read and the cycle without one differ only in
`bus_rdata`. -/
def Obligations.ReadsHaveNoSideEffect : Prop :=
  ∀ (s : State) (v : CycleIn) (rest : List CycleIn), s.inputs = v :: rest → v.ctl = 0#1 →
    (decodeBus v.bus v.wdata).isRead = true →
    ∃ t t', step s = .next t ∧ step { s with inputs := { v with bus := 0x0000#14 } :: rest } = .next t' ∧
      t' = { t with out.busRdata := 0#32 }

/-- 00_scope.md R9, R13, 43_host_bus.md R183, R189, R191, 60_exceptions.md R240 (8): a host write changes the configuration
only after the cycle's own stream and rate phases have run under the old one: the cycle is the cycle without the access,
then the write. -/
def Obligations.HostWritesActAfterTheCycle : Prop :=
  ∀ (s : State) (v : CycleIn) (rest : List CycleIn), s.inputs = v :: rest → v.ctl = 0#1 →
    ∃ t, step { s with inputs := { v with bus := 0x0000#14 } :: rest } = .next t ∧
      (∀ x, decodeBus v.bus v.wdata = .wrTimeout x → step s = .next { t with ctrl.timeout := x }) ∧
      (∀ x, decodeBus v.bus v.wdata = .wrIrqEn x →
        ∃ e : BitVec 6, e.toNat = x.toNat % 64 ∧ step s = .next { t with ctrl.irqEn := e }) ∧
      (∀ x, decodeBus v.bus v.wdata = .wrCtrl x → x.toNat % 2 = 1 → step s = .next { t with ctrl.en := true }) ∧
      (∀ x, decodeBus v.bus v.wdata = .wrCtrl x → x.toNat % 2 = 0 → t.rx.fsm = .halt →
        step s = .next { t with ctrl.en := false }) ∧
      (∀ x, decodeBus v.bus v.wdata = .wrCtrl x → x.toNat % 2 = 0 → t.rx.fsm ≠ .halt →
        step s = .next { t with
          ctrl.en := false, rx.fsm := .hunt, rx.tmr := 0#32, rx.rxLen := 0#8, rx.rxIdx := 0#8 })

/-- 60_exceptions.md R238: `irq` is OR over the six sources of EVENTS[i] & IRQ_EN[i], from the state at the start of the
cycle; in a reset cycle it is 0 (00_scope.md R9). -/
def Obligations.InterruptIsTheEnabledPendingEvents : Prop :=
  ∀ (s : State) (v : CycleIn) (rest : List CycleIn), s.inputs = v :: rest →
    ∃ t, step s = .next t ∧
      (v.ctl = 0#1 → (t.out.irq = true ↔ ∃ i, i < 6 ∧ s.log.events.getLsbD i = true ∧ s.ctrl.irqEn.getLsbD i = true)) ∧
      (v.ctl = 1#1 → t.out.irq = false)

/-- 10_state.md R41: `buttons`, `lstick`, `rstick` and `dec_valid` mirror the state at the start of the cycle; `bus_rdata` is
0 in a cycle with no read; in a reset cycle every output is 0. -/
def Obligations.OutputPortsMirrorTheStartOfTheCycle : Prop :=
  ∀ (s : State) (v : CycleIn) (rest : List CycleIn), s.inputs = v :: rest →
    ∃ t, step s = .next t ∧
      (v.ctl = 0#1 → t.out.buttons = s.dec.buttons ∧ t.out.lstick = s.dec.lstick ∧ t.out.rstick = s.dec.rstick ∧
        t.out.decValid = s.dec.decValid) ∧
      (v.ctl = 0#1 → (decodeBus v.bus v.wdata).isRead = false → t.out.busRdata = 0#32) ∧
      (v.ctl = 1#1 → t.out = { busRdata := 0#32, irq := false, ev := 0#6, buttons := 0#24, lstick := 0#24,
                               rstick := 0#24, decValid := false })

/-- 40_frame_receiver.md R104, 43_host_bus.md R183: a normal cycle does not leave HALT, whatever is presented, records no new
event and keeps the committed frame and the decoded state. -/
def Obligations.OnlyResetLeavesHalt : Prop :=
  ∀ (s : State) (v : CycleIn) (rest : List CycleIn), s.inputs = v :: rest → v.ctl = 0#1 → s.rx.fsm = .halt →
    ∃ t, step s = .next t ∧ t.rx = s.rx ∧ t.out.ev = 0#6 ∧ t.log.lastErr = s.log.lastErr ∧
      t.frame = s.frame ∧ t.dec = s.dec

/-- R116, 10_state.md R27, R28: FRAMEBUF, FRAME_LEN, FRAME_VALID and the decoded state change only in a cycle that
commits. -/
def Obligations.FrameChangesOnlyAtACommit : Prop :=
  ∀ (s : State) (v : CycleIn) (rest : List CycleIn), s.inputs = v :: rest → v.ctl = 0#1 → ¬ Commits s v →
    ∃ t, step s = .next t ∧ t.frame = s.frame ∧ t.dec = s.dec

/-- R116, 60_exceptions.md R231, R233, R236: a cycle that raises LEN_TMO, PAY_TMO, MISMATCH or FATAL leaves the receiver in
HUNT (FATAL: HALT) with `tmr`, `rx_len` and `rx_idx` 0 and the committed frame and decoded state as they were. -/
def Obligations.NoPartialFrameSurvivesAnError : Prop :=
  ∀ (s : State) (v : CycleIn) (rest : List CycleIn), s.inputs = v :: rest → v.ctl = 0#1 →
    ∃ t, step s = .next t ∧
      (t.out.ev &&& 0b101110#6 ≠ 0#6 →
        t.rx.fsm = (if t.out.ev.getLsbD 5 then RxState.halt else .hunt) ∧
        t.rx.tmr = 0#32 ∧ t.rx.rxLen = 0#8 ∧ t.rx.rxIdx = 0#8 ∧ t.frame = s.frame ∧ t.dec = s.dec)

/-- 10_state.md R30, R32, R33, R39, 20_memory.md R58: IRQ_EN, CTRL.EN and TIMEOUT are written only by the host, the parameters
by nothing, and the presented inputs are taken once. That `cycle` counts is 00_scope.md R10. -/
def Obligations.ConfigurationIsWrittenOnlyByTheHost : Prop :=
  ∀ (s : State) (v : CycleIn) (rest : List CycleIn), s.inputs = v :: rest → v.ctl = 0#1 →
    ∃ t, step s = .next t ∧
      ((∀ x, decodeBus v.bus v.wdata ≠ .wrCtrl x) → t.ctrl.en = s.ctrl.en) ∧
      ((∀ x, decodeBus v.bus v.wdata ≠ .wrTimeout x) → t.ctrl.timeout = s.ctrl.timeout) ∧
      ((∀ x, decodeBus v.bus v.wdata ≠ .wrIrqEn x) → t.ctrl.irqEn = s.ctrl.irqEn) ∧
      t.params = s.params ∧ t.inputs = rest ∧ t.draws = s.draws ∧ t.cycle = s.cycle + 1

/-! ## The rate and uptime tracker -/

/-- 42_rate_tracker.md R161, R168: the uptime tick of every normal cycle, in every receiver state. -/
def Obligations.UptimeTicksEveryCycle : Prop :=
  ∀ (s : State) (v : CycleIn) (rest : List CycleIn), s.inputs = v :: rest → v.ctl = 0#1 →
    ∃ t, step s = .next t ∧
      (s.trk.presc.toNat + 1 = s.params.ticksPerSec →
        t.trk.presc = 0#32 ∧ t.trk.elapsed.toNat = (s.trk.elapsed.toNat + 1) % 2 ^ 32) ∧
      (s.trk.presc.toNat + 1 ≠ s.params.ticksPerSec →
        t.trk.presc.toNat = (s.trk.presc.toNat + 1) % 2 ^ 32 ∧ t.trk.elapsed = s.trk.elapsed)

/-- R162, R165, R168: in a cycle with no commit, whatever else happens in it, the window ages, saturating at TICKS_PER_SEC,
and the count and FPS stay. -/
def Obligations.WindowAgesWithoutACommit : Prop :=
  ∀ (s : State) (v : CycleIn) (rest : List CycleIn), s.inputs = v :: rest → v.ctl = 0#1 → ¬ Commits s v →
    ∃ t, step s = .next t ∧
      t.trk.winAge.toNat = min (s.trk.winAge.toNat + 1) s.params.ticksPerSec ∧
      t.trk.winCount = s.trk.winCount ∧ t.trk.fps = s.trk.fps

/-- R163, R164, 90_conflicts.md C1: a commit, of a short frame too, is counted before the boundary is tested; at age
TICKS_PER_SEC or more it closes the window it is counted in. Crossing a boundary raises no event of its own. -/
def Obligations.ACommitIsCountedInItsWindow : Prop :=
  ∀ (s : State) (v : CycleIn) (rest : List CycleIn), s.inputs = v :: rest → Commits s v →
    ∃ t, step s = .next t ∧
      t.out.ev = (if s.rx.rxLen.toNat < 12 then 0b010001#6 else 0b000001#6) ∧
      (s.params.ticksPerSec ≤ s.trk.winAge.toNat →
        t.trk.fps.toNat = (s.trk.winCount.toNat + 1) % 2 ^ 32 ∧ t.trk.winCount = 0#32 ∧ t.trk.winAge = 1#32) ∧
      (s.trk.winAge.toNat < s.params.ticksPerSec →
        t.trk.fps = s.trk.fps ∧ t.trk.winCount.toNat = (s.trk.winCount.toNat + 1) % 2 ^ 32 ∧
        t.trk.winAge.toNat = min (s.trk.winAge.toNat + 1) s.params.ticksPerSec)

/-- R161 (corner cases), 00_scope.md R10: that `presc` and ELAPSED are the remainder and the quotient of the cycle index by
TICKS_PER_SEC is kept by every step. -/
def Obligations.StepKeepsUptimeOfCycle : Prop :=
  ∀ s t : State, UptimeOfCycle s → step s = .next t → UptimeOfCycle t

/-- The uptime relation holds right after reset. -/
def Obligations.ResetMeetsUptimeOfCycle : Prop := UptimeOfCycle State.reset

/-! ## Invariants -/

/-- The invariant of the machine holds right after reset (the buffers' form is log entry 6). -/
def Obligations.ResetMeetsTheInvariant : Prop := Inv State.reset

/-- Every step, whatever is presented, keeps the invariant `Inv`: the buffers' canonical form, what each receiver state says
of the attempt in progress, HALT exactly after a fatal error, DEC_VALID only with the values of the frame in FRAMEBUF, and
the tracker's bounds. -/
def Obligations.StepKeepsTheInvariant : Prop :=
  ∀ s t : State, Inv s → step s = .next t → Inv t

/-! ## Several cycles -/

/-- 40_frame_receiver.md R117, W1, W3: with TIMEOUT = 0 and the receiver enabled in HUNT, noise that holds no `0xAA` and then
`0xAA, L, p, 0xBB` commit a frame with FRAME_LEN = L and FRAMEBUF = p, for every L from 0 to 255 and every payload, whatever
idle cycles stand between, before and after the bytes. -/
def Obligations.AFrameOnTheWireCommits : Prop :=
  ∀ (s : State) (noise p : List Byte) (l : List (Option Byte)) (rest : List CycleIn),
    Inv s → s.rx.fsm = .hunt → s.ctrl.en = true → s.ctrl.timeout = 0#32 →
    (∀ b ∈ noise, b ≠ 0xAA#8) → p.length ≤ 255 →
    l.reduceOption = noise ++ frameBytes p → s.inputs = l.map traceCycle ++ rest →
    ∃ t : State, core.run l.length s = .next t ∧
      t.rx.fsm = .hunt ∧ t.inputs = rest ∧ t.frame.frameValid = true ∧ t.frame.frameLen.toNat = p.length ∧
      (∀ i (h : i < p.length), t.frame.framebuf.read i = p[i]) ∧
      t.log.events.getLsbD 0 = true ∧ t.dec.decValid = decide (12 ≤ p.length)

/-- R101, R109, R111, R114, R118: a timed state just entered, left idle with TIMEOUT = T ≠ 0, is left by its error in the
T-th cycle and not before. -/
def Obligations.AnIdleTimedStateExpiresInItsLastCycle : Prop :=
  ∀ (s : State) (rest : List CycleIn) (f : RxState) (k : ErrKind) (bit : Nat),
    (f, k, bit) ∈ [(RxState.len, ErrKind.lengthTimeout, 1), (.payload, .payloadTimeout, 2),
                   (.endMark, .frameMismatch, 3)] →
    s.rx.fsm = f → s.rx.tmr = 0#32 → s.ctrl.en = true → s.ctrl.timeout ≠ 0#32 →
    s.inputs = List.replicate s.ctrl.timeout.toNat idleCycle ++ rest →
    (∀ n, n < s.ctrl.timeout.toNat → ∃ u : State, core.run n s = .next u ∧ u.rx.fsm = f) ∧
    ∃ t : State, core.run s.ctrl.timeout.toNat s = .next t ∧ t.rx.fsm = .hunt ∧ t.log.lastErr = some k ∧
      t.log.events.getLsbD bit = true ∧ t.inputs = rest

/-- R118: a payload longer than TIMEOUT = T ≠ 0 cycles always ends in PayloadTimeout after T cycles in PAYLOAD, whatever the
byte source does short of a fault, as long as nobody resets or disables the receiver or writes TIMEOUT; every other host
access may happen, a WR.CTRL that enables included. -/
def Obligations.APayloadLongerThanTheTimeoutFails : Prop :=
  ∀ (s : State) (l rest : List CycleIn),
    s.rx.fsm = .payload → s.rx.rxIdx = 0#8 → s.rx.tmr = 0#32 → s.ctrl.en = true → s.ctrl.timeout ≠ 0#32 →
    s.ctrl.timeout.toNat < s.rx.rxLen.toNat → l.length = s.ctrl.timeout.toNat → s.inputs = l ++ rest →
    (∀ v ∈ l, v.ctl = 0#1 ∧ decodeStream v.stream ≠ .rxFault ∧
      (∀ x, decodeBus v.bus v.wdata = .wrCtrl x → x.toNat % 2 = 1) ∧
      (∀ x, decodeBus v.bus v.wdata ≠ .wrTimeout x)) →
    ∃ t : State, core.run l.length s = .next t ∧ t.rx.fsm = .hunt ∧ t.log.lastErr = some .payloadTimeout ∧
      t.frame = s.frame ∧ t.dec = s.dec

/-- 70_reset_and_hazards.md R265: if after a WR.EVENTS and any further cycles that neither reset nor write EVENTS the bit
FRAME_OK is 0, then no commit happened, and every cycle in between saw the same committed frame and decoded state. -/
def Obligations.TornReadProtocolSeesOneFrame : Prop :=
  ∀ (s : State) (v : CycleIn) (l rest : List CycleIn),
    s.inputs = v :: (l ++ rest) → v.ctl = 0#1 → (∃ x, decodeBus v.bus v.wdata = .wrEvents x) →
    (∀ w ∈ l, w.ctl = 0#1 ∧ ∀ x, decodeBus w.bus w.wdata ≠ .wrEvents x) →
    ∃ t : State, core.run (l.length + 1) s = .next t ∧
      (t.log.events.getLsbD 0 = false →
        ∀ n, n ≤ l.length + 1 → ∃ u : State, core.run n s = .next u ∧ u.frame = s.frame ∧ u.dec = s.dec)

/-- 10_state.md R26, R27, 70_reset_and_hazards.md R260, D28: buffer bytes the spec calls unspecified are unobservable: two
states that meet the invariant and differ only in RXBUF from `rx_idx` on and in FRAMEBUF from FRAME_LEN on step to two such
states with equal outputs. So the bytes log entry 6 chooses decide nothing. -/
def Obligations.UnspecifiedBufferBytesAreUnobservable : Prop :=
  ∀ s s' : State, Inv s → Inv s' → SameButStaleBytes s s' →
    ∃ t t', step s = .next t ∧ step s' = .next t' ∧ SameButStaleBytes t t' ∧ t.out = t'.out
end

