-- ==== Sys2Proof/Laws/Memory.lean ====
section
/-! SUPPORT. The laws of a buffer: a read after a write, and the canonical form, which every operation keeps. -/

namespace Sys2Proof.Machine

@[simp] theorem Memory.read_nil (a : Nat) : Memory.read [] a = unlistedByte := rfl

theorem Memory.wfFrom_mono {lo lo' : Nat} (h : lo' ≤ lo) {m : Memory} (hm : Memory.wfFrom lo m = true) :
    Memory.wfFrom lo' m = true := by
  cases m with
  | nil => rfl
  | cons e rest =>
    obtain ⟨k, v⟩ := e
    simp only [Memory.wfFrom, Bool.and_eq_true, decide_eq_true_eq] at hm ⊢
    exact ⟨⟨⟨by omega, hm.1.1.2⟩, hm.1.2⟩, hm.2⟩

/-- Below the first listed index a canonical buffer reads as unlisted. -/
theorem Memory.read_below {lo a : Nat} (h : a < lo) {m : Memory} (hm : Memory.wfFrom lo m = true) :
    m.read a = unlistedByte := by
  induction m generalizing lo with
  | nil => rfl
  | cons e rest ih =>
    obtain ⟨k, v⟩ := e
    simp only [Memory.wfFrom, Bool.and_eq_true, decide_eq_true_eq] at hm
    have : k ≠ a := by omega
    simp only [Memory.read, this, if_false]
    exact ih (by omega : a < k + 1) hm.2

theorem Memory.read_write_same_from {lo : Nat} {m : Memory} (hm : Memory.wfFrom lo m = true) (a : Nat) (b : Byte) :
    (m.write a b).read a = b := by
  induction m generalizing lo with
  | nil => by_cases hb : b = unlistedByte <;> simp [Memory.write, hb, Memory.read]
  | cons e rest ih =>
    obtain ⟨k, v⟩ := e
    have hm' := hm
    simp only [Memory.wfFrom, Bool.and_eq_true, decide_eq_true_eq] at hm
    simp only [Memory.write]
    by_cases h1 : a < k
    · by_cases hb : b = unlistedByte
      · have : k ≠ a := by omega
        simp only [h1, hb, if_true, Memory.read, this, if_false]
        exact Memory.read_below (by omega : a < k + 1) hm.2
      · simp [h1, hb, Memory.read]
    · by_cases h2 : a = k
      · subst h2
        by_cases hb : b = unlistedByte
        · simp only [h1, hb, if_true, if_false]
          exact Memory.read_below (Nat.lt_succ_self a) hm.2
        · simp [hb, Memory.read]
      · have : k ≠ a := fun h => h2 h.symm
        simp only [h1, h2, if_false, Memory.read, this]
        exact ih hm.2

/-- A read of another index after a write gives what it gave before. -/
theorem Memory.read_write_ne (m : Memory) {a c : Nat} (h : c ≠ a) (b : Byte) : (m.write a b).read c = m.read c := by
  have h' : ¬ a = c := fun e => h e.symm
  induction m with
  | nil => by_cases hb : b = unlistedByte <;> simp [Memory.write, hb, Memory.read, h']
  | cons e rest ih =>
    obtain ⟨k, v⟩ := e
    simp only [Memory.write]
    by_cases h1 : a < k
    · by_cases hb : b = unlistedByte <;> simp [h1, hb, Memory.read, h']
    · by_cases h2 : a = k
      · subst h2
        by_cases hb : b = unlistedByte <;> simp [hb, Memory.read, h']
      · simp only [h1, h2, if_false, Memory.read, ih]

theorem Memory.wfFrom_write {lo : Nat} {m : Memory} (hm : Memory.wfFrom lo m = true) {a : Nat} (hlo : lo ≤ a)
    (ha : a < bufferSize) (b : Byte) : Memory.wfFrom lo (m.write a b) = true := by
  induction m generalizing lo with
  | nil => by_cases hb : b = unlistedByte <;> simp [Memory.write, hb, Memory.wfFrom, hlo, ha]
  | cons e rest ih =>
    obtain ⟨k, v⟩ := e
    have hm' := hm
    simp only [Memory.wfFrom, Bool.and_eq_true, decide_eq_true_eq] at hm
    simp only [Memory.write]
    by_cases h1 : a < k
    · by_cases hb : b = unlistedByte
      · simpa [h1, hb] using hm'
      · simp only [h1, hb, if_true, if_false, Memory.wfFrom, Bool.and_eq_true, decide_eq_true_eq]
        exact ⟨⟨⟨hlo, ha⟩, hb⟩, ⟨⟨h1, hm.1.1.2⟩, hm.1.2⟩, hm.2⟩
    · by_cases h2 : a = k
      · subst h2
        by_cases hb : b = unlistedByte
        · simp only [h1, hb, if_true, if_false]
          exact Memory.wfFrom_mono (by omega) hm.2
        · simp only [h1, hb, if_true, if_false, Memory.wfFrom, Bool.and_eq_true, decide_eq_true_eq]
          exact ⟨⟨⟨hlo, ha⟩, hb⟩, hm.2⟩
      · simp only [h1, h2, if_false, Memory.wfFrom, Bool.and_eq_true, decide_eq_true_eq]
        exact ⟨hm.1, ih hm.2 (by omega)⟩

/-- A read after a write to the same index gives the byte written. -/
theorem Memory.read_write_same {m : Memory} (hm : m.wf = true) (a : Nat) (b : Byte) : (m.write a b).read a = b :=
  Memory.read_write_same_from hm a b

/-- A write keeps the canonical form. -/
theorem Memory.wf_write {m : Memory} (hm : m.wf = true) {a : Nat} (ha : a < bufferSize) (b : Byte) :
    (m.write a b).wf = true :=
  Memory.wfFrom_write hm (Nat.zero_le a) ha b

@[simp] theorem Memory.wf_nil : Memory.wf [] = true := rfl

/-- Copying keeps the canonical form. -/
theorem Memory.wf_copy {n : Nat} (hn : n ≤ bufferSize) (src : Memory) {dst : Memory} (hd : dst.wf = true) :
    (Memory.copy n src dst).wf = true := by
  induction n with
  | zero => exact hd
  | succ n ih => exact Memory.wf_write (ih (by omega)) (by omega) _

/-- After a copy the first `n` bytes are the source's and every other byte is as before. -/
theorem Memory.read_copy {n : Nat} (hn : n ≤ bufferSize) (src : Memory) {dst : Memory} (hd : dst.wf = true) (i : Nat) :
    (Memory.copy n src dst).read i = if i < n then src.read i else dst.read i := by
  induction n with
  | zero => simp [Memory.copy]
  | succ n ih =>
    simp only [Memory.copy]
    by_cases h : i = n
    · subst h
      rw [Memory.read_write_same (Memory.wf_copy (by omega) src hd)]
      simp
    · rw [Memory.read_write_ne _ h, ih (by omega)]
      by_cases h1 : i < n
      · simp [h1, Nat.lt_succ_of_lt h1]
      · have : ¬ i < n + 1 := by omega
        simp [h1, this]

/-- Two canonical buffers with the same bytes are the same list. -/
theorem Memory.ext_of_read {m m' : Memory} (hm : m.wf = true) (hm' : m'.wf = true)
    (h : ∀ a, m.read a = m'.read a) : m = m' := by
  suffices H : ∀ (lo : Nat) (m m' : Memory), Memory.wfFrom lo m = true → Memory.wfFrom lo m' = true →
      (∀ a, m.read a = m'.read a) → m = m' from H 0 m m' hm hm' h
  intro lo m
  induction m generalizing lo with
  | nil =>
    intro m' _ h2 h3
    cases m' with
    | nil => rfl
    | cons e r =>
      obtain ⟨k, v⟩ := e
      simp only [Memory.wfFrom, Bool.and_eq_true, decide_eq_true_eq] at h2
      have := h3 k
      simp only [Memory.read, if_true] at this
      exact absurd this.symm h2.1.2
  | cons e r ih =>
    obtain ⟨k, v⟩ := e
    intro m' h1 h2 h3
    cases m' with
    | nil =>
      simp only [Memory.wfFrom, Bool.and_eq_true, decide_eq_true_eq] at h1
      have := h3 k
      simp only [Memory.read, if_true] at this
      exact absurd this h1.1.2
    | cons e' r' =>
      obtain ⟨k', v'⟩ := e'
      simp only [Memory.wfFrom, Bool.and_eq_true, decide_eq_true_eq] at h1 h2
      have hk : k = k' := by
        rcases Nat.lt_trichotomy k k' with hlt | heq | hgt
        · exfalso
          have := h3 k
          have hb : Memory.read r' k = unlistedByte := Memory.read_below (by omega : k < k' + 1) h2.2
          rw [Memory.read, Memory.read, if_pos rfl, if_neg (by omega), hb] at this
          exact h1.1.2 this
        · exact heq
        · exfalso
          have := h3 k'
          have hb : Memory.read r k' = unlistedByte := Memory.read_below (by omega : k' < k + 1) h1.2
          rw [Memory.read, Memory.read, if_neg (by omega), if_pos rfl, hb] at this
          exact h2.1.2 this.symm
      subst hk
      have hv : v = v' := by simpa [Memory.read] using h3 k
      subst hv
      have : r = r' := ih (k + 1) r' h1.2 h2.2 (fun a => by
        by_cases ha : k = a
        · subst ha
          rw [Memory.read_below (Nat.lt_succ_self k) h1.2, Memory.read_below (Nat.lt_succ_self k) h2.2]
        · simpa [Memory.read, ha] using h3 a)
      rw [this]

end Sys2Proof.Machine
end

