-- ==== Sys2Proof/Laws/State.lean ====
section
/-! SUPPORT. What each update of the state does to each field: one lemma a field, true by unfolding, so that no later
proof unfolds a record update. -/

namespace Sys2Proof.Machine

@[simp] theorem addEvent_params (s : State) (e : BitVec 6) : (s.addEvent e).params = s.params := rfl
@[simp] theorem addEvent_rx (s : State) (e : BitVec 6) : (s.addEvent e).rx = s.rx := rfl
@[simp] theorem addEvent_frame (s : State) (e : BitVec 6) : (s.addEvent e).frame = s.frame := rfl
@[simp] theorem addEvent_dec (s : State) (e : BitVec 6) : (s.addEvent e).dec = s.dec := rfl
@[simp] theorem addEvent_log (s : State) (e : BitVec 6) : (s.addEvent e).log = s.log := rfl
@[simp] theorem addEvent_ctrl (s : State) (e : BitVec 6) : (s.addEvent e).ctrl = s.ctrl := rfl
@[simp] theorem addEvent_trk (s : State) (e : BitVec 6) : (s.addEvent e).trk = s.trk := rfl
@[simp] theorem addEvent_committed (s : State) (e : BitVec 6) : (s.addEvent e).committed = s.committed := rfl
@[simp] theorem addEvent_busRdata (s : State) (e : BitVec 6) : (s.addEvent e).out.busRdata = s.out.busRdata := rfl
@[simp] theorem addEvent_irq (s : State) (e : BitVec 6) : (s.addEvent e).out.irq = s.out.irq := rfl
@[simp] theorem addEvent_ev (s : State) (e : BitVec 6) : (s.addEvent e).out.ev = s.out.ev ||| e := rfl
@[simp] theorem addEvent_buttons (s : State) (e : BitVec 6) : (s.addEvent e).out.buttons = s.out.buttons := rfl
@[simp] theorem addEvent_lstick (s : State) (e : BitVec 6) : (s.addEvent e).out.lstick = s.out.lstick := rfl
@[simp] theorem addEvent_rstick (s : State) (e : BitVec 6) : (s.addEvent e).out.rstick = s.out.rstick := rfl
@[simp] theorem addEvent_decValid (s : State) (e : BitVec 6) : (s.addEvent e).out.decValid = s.out.decValid := rfl
@[simp] theorem addEvent_inputs (s : State) (e : BitVec 6) : (s.addEvent e).inputs = s.inputs := rfl
@[simp] theorem addEvent_draws (s : State) (e : BitVec 6) : (s.addEvent e).draws = s.draws := rfl
@[simp] theorem addEvent_cycle (s : State) (e : BitVec 6) : (s.addEvent e).cycle = s.cycle := rfl

@[simp] theorem setLastErr_params (s : State) (k : ErrKind) : (s.setLastErr k).params = s.params := rfl
@[simp] theorem setLastErr_rx (s : State) (k : ErrKind) : (s.setLastErr k).rx = s.rx := rfl
@[simp] theorem setLastErr_frame (s : State) (k : ErrKind) : (s.setLastErr k).frame = s.frame := rfl
@[simp] theorem setLastErr_dec (s : State) (k : ErrKind) : (s.setLastErr k).dec = s.dec := rfl
@[simp] theorem setLastErr_events (s : State) (k : ErrKind) : (s.setLastErr k).log.events = s.log.events := rfl
@[simp] theorem setLastErr_lastErr (s : State) (k : ErrKind) : (s.setLastErr k).log.lastErr = some k := rfl
@[simp] theorem setLastErr_ctrl (s : State) (k : ErrKind) : (s.setLastErr k).ctrl = s.ctrl := rfl
@[simp] theorem setLastErr_trk (s : State) (k : ErrKind) : (s.setLastErr k).trk = s.trk := rfl
@[simp] theorem setLastErr_committed (s : State) (k : ErrKind) : (s.setLastErr k).committed = s.committed := rfl
@[simp] theorem setLastErr_out (s : State) (k : ErrKind) : (s.setLastErr k).out = s.out := rfl
@[simp] theorem setLastErr_inputs (s : State) (k : ErrKind) : (s.setLastErr k).inputs = s.inputs := rfl
@[simp] theorem setLastErr_draws (s : State) (k : ErrKind) : (s.setLastErr k).draws = s.draws := rfl
@[simp] theorem setLastErr_cycle (s : State) (k : ErrKind) : (s.setLastErr k).cycle = s.cycle := rfl

@[simp] theorem endAttempt_params (s : State) (f : RxState) : (s.endAttempt f).params = s.params := rfl
@[simp] theorem endAttempt_fsm (s : State) (f : RxState) : (s.endAttempt f).rx.fsm = f := rfl
@[simp] theorem endAttempt_rxLen (s : State) (f : RxState) : (s.endAttempt f).rx.rxLen = 0#8 := rfl
@[simp] theorem endAttempt_rxIdx (s : State) (f : RxState) : (s.endAttempt f).rx.rxIdx = 0#8 := rfl
@[simp] theorem endAttempt_tmr (s : State) (f : RxState) : (s.endAttempt f).rx.tmr = 0#32 := rfl
@[simp] theorem endAttempt_rxbuf (s : State) (f : RxState) : (s.endAttempt f).rx.rxbuf = s.rx.rxbuf := rfl
@[simp] theorem endAttempt_frame (s : State) (f : RxState) : (s.endAttempt f).frame = s.frame := rfl
@[simp] theorem endAttempt_dec (s : State) (f : RxState) : (s.endAttempt f).dec = s.dec := rfl
@[simp] theorem endAttempt_log (s : State) (f : RxState) : (s.endAttempt f).log = s.log := rfl
@[simp] theorem endAttempt_ctrl (s : State) (f : RxState) : (s.endAttempt f).ctrl = s.ctrl := rfl
@[simp] theorem endAttempt_trk (s : State) (f : RxState) : (s.endAttempt f).trk = s.trk := rfl
@[simp] theorem endAttempt_committed (s : State) (f : RxState) : (s.endAttempt f).committed = s.committed := rfl
@[simp] theorem endAttempt_out (s : State) (f : RxState) : (s.endAttempt f).out = s.out := rfl
@[simp] theorem endAttempt_inputs (s : State) (f : RxState) : (s.endAttempt f).inputs = s.inputs := rfl
@[simp] theorem endAttempt_draws (s : State) (f : RxState) : (s.endAttempt f).draws = s.draws := rfl
@[simp] theorem endAttempt_cycle (s : State) (f : RxState) : (s.endAttempt f).cycle = s.cycle := rfl

@[simp] theorem respond_params (s : State) (v : Word) : (s.respond v).params = s.params := rfl
@[simp] theorem respond_rx (s : State) (v : Word) : (s.respond v).rx = s.rx := rfl
@[simp] theorem respond_frame (s : State) (v : Word) : (s.respond v).frame = s.frame := rfl
@[simp] theorem respond_dec (s : State) (v : Word) : (s.respond v).dec = s.dec := rfl
@[simp] theorem respond_log (s : State) (v : Word) : (s.respond v).log = s.log := rfl
@[simp] theorem respond_ctrl (s : State) (v : Word) : (s.respond v).ctrl = s.ctrl := rfl
@[simp] theorem respond_trk (s : State) (v : Word) : (s.respond v).trk = s.trk := rfl
@[simp] theorem respond_committed (s : State) (v : Word) : (s.respond v).committed = s.committed := rfl
@[simp] theorem respond_busRdata (s : State) (v : Word) : (s.respond v).out.busRdata = v := rfl
@[simp] theorem respond_irq (s : State) (v : Word) : (s.respond v).out.irq = s.out.irq := rfl
@[simp] theorem respond_ev (s : State) (v : Word) : (s.respond v).out.ev = s.out.ev := rfl
@[simp] theorem respond_buttons (s : State) (v : Word) : (s.respond v).out.buttons = s.out.buttons := rfl
@[simp] theorem respond_lstick (s : State) (v : Word) : (s.respond v).out.lstick = s.out.lstick := rfl
@[simp] theorem respond_rstick (s : State) (v : Word) : (s.respond v).out.rstick = s.out.rstick := rfl
@[simp] theorem respond_decValid (s : State) (v : Word) : (s.respond v).out.decValid = s.out.decValid := rfl
@[simp] theorem respond_inputs (s : State) (v : Word) : (s.respond v).inputs = s.inputs := rfl
@[simp] theorem respond_draws (s : State) (v : Word) : (s.respond v).draws = s.draws := rfl
@[simp] theorem respond_cycle (s : State) (v : Word) : (s.respond v).cycle = s.cycle := rfl

@[simp] theorem tickTimer_params (s : State) : (tickTimer s).params = s.params := rfl
@[simp] theorem tickTimer_fsm (s : State) : (tickTimer s).rx.fsm = s.rx.fsm := rfl
@[simp] theorem tickTimer_rxLen (s : State) : (tickTimer s).rx.rxLen = s.rx.rxLen := rfl
@[simp] theorem tickTimer_rxIdx (s : State) : (tickTimer s).rx.rxIdx = s.rx.rxIdx := rfl
@[simp] theorem tickTimer_tmr (s : State) : (tickTimer s).rx.tmr = sat32 (s.rx.tmr.toNat + 1) := rfl
@[simp] theorem tickTimer_rxbuf (s : State) : (tickTimer s).rx.rxbuf = s.rx.rxbuf := rfl
@[simp] theorem tickTimer_frame (s : State) : (tickTimer s).frame = s.frame := rfl
@[simp] theorem tickTimer_dec (s : State) : (tickTimer s).dec = s.dec := rfl
@[simp] theorem tickTimer_log (s : State) : (tickTimer s).log = s.log := rfl
@[simp] theorem tickTimer_ctrl (s : State) : (tickTimer s).ctrl = s.ctrl := rfl
@[simp] theorem tickTimer_trk (s : State) : (tickTimer s).trk = s.trk := rfl
@[simp] theorem tickTimer_committed (s : State) : (tickTimer s).committed = s.committed := rfl
@[simp] theorem tickTimer_out (s : State) : (tickTimer s).out = s.out := rfl
@[simp] theorem tickTimer_inputs (s : State) : (tickTimer s).inputs = s.inputs := rfl
@[simp] theorem tickTimer_draws (s : State) : (tickTimer s).draws = s.draws := rfl
@[simp] theorem tickTimer_cycle (s : State) : (tickTimer s).cycle = s.cycle := rfl

@[simp] theorem startAttempt_params (s : State) : (startAttempt s).params = s.params := rfl
@[simp] theorem startAttempt_fsm (s : State) : (startAttempt s).rx.fsm = .len := rfl
@[simp] theorem startAttempt_rxLen (s : State) : (startAttempt s).rx.rxLen = s.rx.rxLen := rfl
@[simp] theorem startAttempt_rxIdx (s : State) : (startAttempt s).rx.rxIdx = s.rx.rxIdx := rfl
@[simp] theorem startAttempt_tmr (s : State) : (startAttempt s).rx.tmr = 0#32 := rfl
@[simp] theorem startAttempt_rxbuf (s : State) : (startAttempt s).rx.rxbuf = s.rx.rxbuf := rfl
@[simp] theorem startAttempt_frame (s : State) : (startAttempt s).frame = s.frame := rfl
@[simp] theorem startAttempt_dec (s : State) : (startAttempt s).dec = s.dec := rfl
@[simp] theorem startAttempt_log (s : State) : (startAttempt s).log = s.log := rfl
@[simp] theorem startAttempt_ctrl (s : State) : (startAttempt s).ctrl = s.ctrl := rfl
@[simp] theorem startAttempt_trk (s : State) : (startAttempt s).trk = s.trk := rfl
@[simp] theorem startAttempt_committed (s : State) : (startAttempt s).committed = s.committed := rfl
@[simp] theorem startAttempt_out (s : State) : (startAttempt s).out = s.out := rfl
@[simp] theorem startAttempt_inputs (s : State) : (startAttempt s).inputs = s.inputs := rfl
@[simp] theorem startAttempt_draws (s : State) : (startAttempt s).draws = s.draws := rfl
@[simp] theorem startAttempt_cycle (s : State) : (startAttempt s).cycle = s.cycle := rfl

@[simp] theorem takeLength_params (d : Byte) (s : State) : (takeLength d s).params = s.params := rfl
@[simp] theorem takeLength_fsm (d : Byte) (s : State) : (takeLength d s).rx.fsm = if d = 0#8 then .endMark else .payload := rfl
@[simp] theorem takeLength_rxLen (d : Byte) (s : State) : (takeLength d s).rx.rxLen = d := rfl
@[simp] theorem takeLength_rxIdx (d : Byte) (s : State) : (takeLength d s).rx.rxIdx = 0#8 := rfl
@[simp] theorem takeLength_tmr (d : Byte) (s : State) : (takeLength d s).rx.tmr = 0#32 := rfl
@[simp] theorem takeLength_rxbuf (d : Byte) (s : State) : (takeLength d s).rx.rxbuf = s.rx.rxbuf := rfl
@[simp] theorem takeLength_frame (d : Byte) (s : State) : (takeLength d s).frame = s.frame := rfl
@[simp] theorem takeLength_dec (d : Byte) (s : State) : (takeLength d s).dec = s.dec := rfl
@[simp] theorem takeLength_log (d : Byte) (s : State) : (takeLength d s).log = s.log := rfl
@[simp] theorem takeLength_ctrl (d : Byte) (s : State) : (takeLength d s).ctrl = s.ctrl := rfl
@[simp] theorem takeLength_trk (d : Byte) (s : State) : (takeLength d s).trk = s.trk := rfl
@[simp] theorem takeLength_committed (d : Byte) (s : State) : (takeLength d s).committed = s.committed := rfl
@[simp] theorem takeLength_out (d : Byte) (s : State) : (takeLength d s).out = s.out := rfl
@[simp] theorem takeLength_inputs (d : Byte) (s : State) : (takeLength d s).inputs = s.inputs := rfl
@[simp] theorem takeLength_draws (d : Byte) (s : State) : (takeLength d s).draws = s.draws := rfl
@[simp] theorem takeLength_cycle (d : Byte) (s : State) : (takeLength d s).cycle = s.cycle := rfl

@[simp] theorem signalFrameOk_params (s : State) : (signalFrameOk s).params = s.params := rfl
@[simp] theorem signalFrameOk_rx (s : State) : (signalFrameOk s).rx = s.rx := rfl
@[simp] theorem signalFrameOk_frame (s : State) : (signalFrameOk s).frame = s.frame := rfl
@[simp] theorem signalFrameOk_dec (s : State) : (signalFrameOk s).dec = s.dec := rfl
@[simp] theorem signalFrameOk_log (s : State) : (signalFrameOk s).log = s.log := rfl
@[simp] theorem signalFrameOk_ctrl (s : State) : (signalFrameOk s).ctrl = s.ctrl := rfl
@[simp] theorem signalFrameOk_trk (s : State) : (signalFrameOk s).trk = s.trk := rfl
@[simp] theorem signalFrameOk_committed (s : State) : (signalFrameOk s).committed = s.committed := rfl
@[simp] theorem signalFrameOk_busRdata (s : State) : (signalFrameOk s).out.busRdata = s.out.busRdata := rfl
@[simp] theorem signalFrameOk_irq (s : State) : (signalFrameOk s).out.irq = s.out.irq := rfl
@[simp] theorem signalFrameOk_ev (s : State) : (signalFrameOk s).out.ev = s.out.ev ||| evFrameOk := rfl
@[simp] theorem signalFrameOk_buttons (s : State) : (signalFrameOk s).out.buttons = s.out.buttons := rfl
@[simp] theorem signalFrameOk_lstick (s : State) : (signalFrameOk s).out.lstick = s.out.lstick := rfl
@[simp] theorem signalFrameOk_rstick (s : State) : (signalFrameOk s).out.rstick = s.out.rstick := rfl
@[simp] theorem signalFrameOk_decValid (s : State) : (signalFrameOk s).out.decValid = s.out.decValid := rfl
@[simp] theorem signalFrameOk_inputs (s : State) : (signalFrameOk s).inputs = s.inputs := rfl
@[simp] theorem signalFrameOk_draws (s : State) : (signalFrameOk s).draws = s.draws := rfl
@[simp] theorem signalFrameOk_cycle (s : State) : (signalFrameOk s).cycle = s.cycle := rfl

@[simp] theorem beginCycle_params (s : State) : (beginCycle s).params = s.params := rfl
@[simp] theorem beginCycle_rx (s : State) : (beginCycle s).rx = s.rx := rfl
@[simp] theorem beginCycle_frame (s : State) : (beginCycle s).frame = s.frame := rfl
@[simp] theorem beginCycle_dec (s : State) : (beginCycle s).dec = s.dec := rfl
@[simp] theorem beginCycle_log (s : State) : (beginCycle s).log = s.log := rfl
@[simp] theorem beginCycle_ctrl (s : State) : (beginCycle s).ctrl = s.ctrl := rfl
@[simp] theorem beginCycle_trk (s : State) : (beginCycle s).trk = s.trk := rfl
@[simp] theorem beginCycle_committed (s : State) : (beginCycle s).committed = false := rfl
@[simp] theorem beginCycle_busRdata (s : State) : (beginCycle s).out.busRdata = 0#32 := rfl
@[simp] theorem beginCycle_irq (s : State) : (beginCycle s).out.irq = irqLine s := rfl
@[simp] theorem beginCycle_ev (s : State) : (beginCycle s).out.ev = 0#6 := rfl
@[simp] theorem beginCycle_buttons (s : State) : (beginCycle s).out.buttons = s.dec.buttons := rfl
@[simp] theorem beginCycle_lstick (s : State) : (beginCycle s).out.lstick = s.dec.lstick := rfl
@[simp] theorem beginCycle_rstick (s : State) : (beginCycle s).out.rstick = s.dec.rstick := rfl
@[simp] theorem beginCycle_decValid (s : State) : (beginCycle s).out.decValid = s.dec.decValid := rfl
@[simp] theorem beginCycle_inputs (s : State) : (beginCycle s).inputs = s.inputs := rfl
@[simp] theorem beginCycle_draws (s : State) : (beginCycle s).draws = s.draws := rfl
@[simp] theorem beginCycle_cycle (s : State) : (beginCycle s).cycle = s.cycle := rfl

@[simp] theorem endCycle_params (s : State) : (endCycle s).params = s.params := rfl
@[simp] theorem endCycle_rx (s : State) : (endCycle s).rx = s.rx := rfl
@[simp] theorem endCycle_frame (s : State) : (endCycle s).frame = s.frame := rfl
@[simp] theorem endCycle_dec (s : State) : (endCycle s).dec = s.dec := rfl
@[simp] theorem endCycle_events (s : State) : (endCycle s).log.events = s.log.events ||| s.out.ev := rfl
@[simp] theorem endCycle_lastErr (s : State) : (endCycle s).log.lastErr = s.log.lastErr := rfl
@[simp] theorem endCycle_ctrl (s : State) : (endCycle s).ctrl = s.ctrl := rfl
@[simp] theorem endCycle_trk (s : State) : (endCycle s).trk = s.trk := rfl
@[simp] theorem endCycle_committed (s : State) : (endCycle s).committed = s.committed := rfl
@[simp] theorem endCycle_out (s : State) : (endCycle s).out = s.out := rfl
@[simp] theorem endCycle_inputs (s : State) : (endCycle s).inputs = s.inputs := rfl
@[simp] theorem endCycle_draws (s : State) : (endCycle s).draws = s.draws := rfl
@[simp] theorem endCycle_cycle (s : State) : (endCycle s).cycle = s.cycle + 1 := rfl

@[simp] theorem ratePhase_params (s : State) : (ratePhase s).params = s.params := rfl
@[simp] theorem ratePhase_rx (s : State) : (ratePhase s).rx = s.rx := rfl
@[simp] theorem ratePhase_frame (s : State) : (ratePhase s).frame = s.frame := rfl
@[simp] theorem ratePhase_dec (s : State) : (ratePhase s).dec = s.dec := rfl
@[simp] theorem ratePhase_log (s : State) : (ratePhase s).log = s.log := rfl
@[simp] theorem ratePhase_ctrl (s : State) : (ratePhase s).ctrl = s.ctrl := rfl
@[simp] theorem ratePhase_committed (s : State) : (ratePhase s).committed = s.committed := rfl
@[simp] theorem ratePhase_out (s : State) : (ratePhase s).out = s.out := rfl
@[simp] theorem ratePhase_inputs (s : State) : (ratePhase s).inputs = s.inputs := rfl
@[simp] theorem ratePhase_draws (s : State) : (ratePhase s).draws = s.draws := rfl
@[simp] theorem ratePhase_cycle (s : State) : (ratePhase s).cycle = s.cycle := rfl

@[simp] theorem consumeInput_params (s : State) : (consumeInput s).params = s.params := rfl
@[simp] theorem consumeInput_rx (s : State) : (consumeInput s).rx = s.rx := rfl
@[simp] theorem consumeInput_frame (s : State) : (consumeInput s).frame = s.frame := rfl
@[simp] theorem consumeInput_dec (s : State) : (consumeInput s).dec = s.dec := rfl
@[simp] theorem consumeInput_log (s : State) : (consumeInput s).log = s.log := rfl
@[simp] theorem consumeInput_ctrl (s : State) : (consumeInput s).ctrl = s.ctrl := rfl
@[simp] theorem consumeInput_trk (s : State) : (consumeInput s).trk = s.trk := rfl
@[simp] theorem consumeInput_committed (s : State) : (consumeInput s).committed = s.committed := rfl
@[simp] theorem consumeInput_out (s : State) : (consumeInput s).out = s.out := rfl
@[simp] theorem consumeInput_inputs (s : State) : (consumeInput s).inputs = s.inputs.tail := rfl
@[simp] theorem consumeInput_draws (s : State) : (consumeInput s).draws = if s.inputs.isEmpty then s.draws + 1 else s.draws := rfl
@[simp] theorem consumeInput_cycle (s : State) : (consumeInput s).cycle = s.cycle := rfl

end Sys2Proof.Machine
end

