-- ==== Sys2Proof/Laws/Ops.lean ====
section
/-! SUPPORT. What each shared operation can do: the error entries, Decode, Commit, the timed wait. -/

namespace Sys2Proof.Machine

/-- The three receiver errors have one entry (60_exceptions.md R231). -/
theorem raise_receiver (k : ErrKind) (hk : k ≠ .payloadTooShort ∧ k ≠ .fatal) (s : State) :
    raise k s = ((s.addEvent k.eventBit).setLastErr k).endAttempt .hunt := by
  cases k <;> first | rfl | exact absurd rfl hk.1 | exact absurd rfl hk.2

/-- The fatal entry (R233). -/
theorem raise_fatal (s : State) :
    raise .fatal s = ((s.addEvent ErrKind.fatal.eventBit).setLastErr .fatal).endAttempt .halt := rfl

@[simp] theorem raise_lastErr (k : ErrKind) (s : State) : (raise k s).log.lastErr = some k := by cases k <;> rfl
@[simp] theorem raise_events (k : ErrKind) (s : State) : (raise k s).log.events = s.log.events := by cases k <;> rfl
@[simp] theorem raise_ev (k : ErrKind) (s : State) : (raise k s).out.ev = s.out.ev ||| k.eventBit := by cases k <;> rfl
@[simp] theorem raise_params (k : ErrKind) (s : State) : (raise k s).params = s.params := by cases k <;> rfl
@[simp] theorem raise_frame (k : ErrKind) (s : State) : (raise k s).frame = s.frame := by cases k <;> rfl
@[simp] theorem raise_ctrl (k : ErrKind) (s : State) : (raise k s).ctrl = s.ctrl := by cases k <;> rfl
@[simp] theorem raise_trk (k : ErrKind) (s : State) : (raise k s).trk = s.trk := by cases k <;> rfl
@[simp] theorem raise_committed (k : ErrKind) (s : State) : (raise k s).committed = s.committed := by cases k <;> rfl
@[simp] theorem raise_inputs (k : ErrKind) (s : State) : (raise k s).inputs = s.inputs := by cases k <;> rfl
@[simp] theorem raise_draws (k : ErrKind) (s : State) : (raise k s).draws = s.draws := by cases k <;> rfl
@[simp] theorem raise_cycle (k : ErrKind) (s : State) : (raise k s).cycle = s.cycle := by cases k <;> rfl
@[simp] theorem raise_rxbuf (k : ErrKind) (s : State) : (raise k s).rx.rxbuf = s.rx.rxbuf := by cases k <;> rfl
@[simp] theorem raise_busRdata (k : ErrKind) (s : State) : (raise k s).out.busRdata = s.out.busRdata := by
  cases k <;> rfl

/-- Decode changes only the decoded registers and, on a short payload, the event set and LAST_ERR (R140, R141). -/
theorem decodePayload_frame (p : Memory) (l : Byte) (s : State) :
    (decodePayload p l s).params = s.params ∧ (decodePayload p l s).rx = s.rx ∧
    (decodePayload p l s).frame = s.frame ∧ (decodePayload p l s).ctrl = s.ctrl ∧
    (decodePayload p l s).trk = s.trk ∧ (decodePayload p l s).committed = s.committed ∧
    (decodePayload p l s).inputs = s.inputs ∧ (decodePayload p l s).draws = s.draws ∧
    (decodePayload p l s).cycle = s.cycle ∧ (decodePayload p l s).log.events = s.log.events ∧
    (decodePayload p l s).out.busRdata = s.out.busRdata := by
  unfold decodePayload
  split <;> exact ⟨rfl, rfl, rfl, rfl, rfl, rfl, rfl, rfl, rfl, rfl, rfl⟩

/-- A saturating increment, as a number. -/
theorem sat32_toNat (n : Nat) : (sat32 n).toNat = min n (2 ^ 32 - 1) := by
  simp only [sat32, BitVec.toNat_ofNat]
  omega

/-- The timeout predicate, as numbers (R101). -/
theorem expired_iff (s : State) :
    expired s = true ↔ s.ctrl.timeout ≠ 0#32 ∧ s.ctrl.timeout.toNat ≤ s.rx.tmr.toNat + 1 := by
  simp [expired]

end Sys2Proof.Machine
end

