-- ==== Sys2Proof/Laws/Receiver.lean ====
section
/-! SUPPORT. What the stream phase can do, said once: it never touches what belongs to the host, the tracker or the
environment, and outside a commit it never touches the committed frame, the decoded state or the `committed` mark. -/

namespace Sys2Proof.Machine

/-- What no stream operation writes. -/
structure StreamKeeps (s t : State) : Prop where
  params : t.params = s.params
  ctrl : t.ctrl = s.ctrl
  trk : t.trk = s.trk
  events : t.log.events = s.log.events
  inputs : t.inputs = s.inputs
  draws : t.draws = s.draws
  cycle : t.cycle = s.cycle
  busRdata : t.out.busRdata = s.out.busRdata

theorem StreamKeeps.refl (s : State) : StreamKeeps s s := ⟨rfl, rfl, rfl, rfl, rfl, rfl, rfl, rfl⟩

theorem raise_streamKeeps (k : ErrKind) (s : State) : StreamKeeps s (raise k s) := by
  constructor <;> simp

theorem waitTimed_streamKeeps (k : ErrKind) (s : State) : StreamKeeps s (waitTimed k s) := by
  unfold waitTimed
  split
  · exact raise_streamKeeps k s
  · exact ⟨rfl, rfl, rfl, rfl, rfl, rfl, rfl, rfl⟩

theorem takePayload_streamKeeps (d : Byte) (s : State) : StreamKeeps s (takePayload d s) := by
  unfold takePayload
  split
  · exact ⟨rfl, rfl, rfl, rfl, rfl, rfl, rfl, rfl⟩
  · split <;> exact ⟨rfl, rfl, rfl, rfl, rfl, rfl, rfl, rfl⟩

theorem acceptFrame_streamKeeps (s : State) : StreamKeeps s (acceptFrame s) := by
  unfold acceptFrame commit
  obtain ⟨h1, -, -, h2, h3, -, h4, h5, h6, h7, h8⟩ := decodePayload_frame s.rx.rxbuf s.rx.rxLen
    { signalFrameOk { s with frame :=
      { framebuf := Memory.copy s.rx.rxLen.toNat s.rx.rxbuf s.frame.framebuf
        frameLen := s.rx.rxLen
        frameValid := true } } with committed := true }
  exact ⟨h1, h2, h3, h7, h4, h5, h6, h8⟩

theorem rxBytePhase_streamKeeps (d : Byte) (s : State) : StreamKeeps s (rxBytePhase d s) := by
  unfold rxBytePhase
  split
  · exact StreamKeeps.refl s
  · split
    · exact StreamKeeps.refl s
    · split
      · split <;> exact ⟨rfl, rfl, rfl, rfl, rfl, rfl, rfl, rfl⟩
      · exact ⟨rfl, rfl, rfl, rfl, rfl, rfl, rfl, rfl⟩
      · exact takePayload_streamKeeps d s
      · split
        · exact acceptFrame_streamKeeps s
        · exact raise_streamKeeps _ s
      · exact StreamKeeps.refl s

theorem rxIdlePhase_streamKeeps (s : State) : StreamKeeps s (rxIdlePhase s) := by
  unfold rxIdlePhase
  split
  · exact StreamKeeps.refl s
  · split
    · exact StreamKeeps.refl s
    · split
      · exact StreamKeeps.refl s
      · exact waitTimed_streamKeeps _ s
      · exact waitTimed_streamKeeps _ s
      · exact waitTimed_streamKeeps _ s
      · exact StreamKeeps.refl s

theorem rxFaultPhase_streamKeeps (s : State) : StreamKeeps s (rxFaultPhase s) := by
  unfold rxFaultPhase
  split
  · exact StreamKeeps.refl s
  · exact raise_streamKeeps _ s

/-- The receiver is about to commit: an enabled receiver in END. -/
def AtEndMarker (s : State) : Prop := s.rx.fsm = .endMark ∧ s.ctrl.en = true

/-- A byte that is not an accepted end marker leaves the committed frame, the decoded state and `committed` alone. -/
theorem rxBytePhase_no_commit {d : Byte} {s : State} (h : ¬ (AtEndMarker s ∧ d = eof)) :
    (rxBytePhase d s).frame = s.frame ∧ (rxBytePhase d s).dec = s.dec ∧
    (rxBytePhase d s).committed = s.committed := by
  unfold rxBytePhase
  split
  · exact ⟨rfl, rfl, rfl⟩
  · rename_i h1
    split
    · exact ⟨rfl, rfl, rfl⟩
    · rename_i h2
      split
      · split <;> exact ⟨rfl, rfl, rfl⟩
      · exact ⟨rfl, rfl, rfl⟩
      · unfold takePayload
        split
        · exact ⟨rfl, rfl, rfl⟩
        · split <;> exact ⟨rfl, rfl, rfl⟩
      · rename_i h3
        have h4 : ¬ d = eof := fun hd => h ⟨⟨h3, by simpa using h2⟩, hd⟩
        simp only [h4, if_false]
        exact ⟨rfl, rfl, rfl⟩
      · exact ⟨rfl, rfl, rfl⟩

theorem waitTimed_no_commit {k : ErrKind} (hk : k ≠ .payloadTooShort) (s : State) :
    (waitTimed k s).frame = s.frame ∧ (waitTimed k s).dec = s.dec ∧ (waitTimed k s).committed = s.committed := by
  unfold waitTimed
  split
  · cases k <;> first | exact ⟨rfl, rfl, rfl⟩ | exact absurd rfl hk
  · exact ⟨rfl, rfl, rfl⟩

theorem rxIdlePhase_no_commit (s : State) :
    (rxIdlePhase s).frame = s.frame ∧ (rxIdlePhase s).dec = s.dec ∧ (rxIdlePhase s).committed = s.committed := by
  unfold rxIdlePhase
  split
  · exact ⟨rfl, rfl, rfl⟩
  · split
    · exact ⟨rfl, rfl, rfl⟩
    · split
      · exact ⟨rfl, rfl, rfl⟩
      · exact waitTimed_no_commit (by decide) s
      · exact waitTimed_no_commit (by decide) s
      · exact waitTimed_no_commit (by decide) s
      · exact ⟨rfl, rfl, rfl⟩

theorem rxFaultPhase_no_commit (s : State) :
    (rxFaultPhase s).frame = s.frame ∧ (rxFaultPhase s).dec = s.dec ∧ (rxFaultPhase s).committed = s.committed := by
  unfold rxFaultPhase
  split <;> exact ⟨rfl, rfl, rfl⟩

end Sys2Proof.Machine
end

