-- ==== Sys2Proof/Laws/Cycle.lean ====
section
/-! SUPPORT. What each operation answers, and a cycle as a chain of total effects: every operation answers a next state, so
a cycle does. -/

namespace Sys2Proof.Machine

@[simp] theorem exec_reset (s : State) : exec .reset s = .next (State.resetWith s.params s.inputs s.draws) := rfl
@[simp] theorem exec_rxFault (s : State) : exec .rxFault s = .next (rxFaultPhase s) := rfl
@[simp] theorem exec_rxByte (d : Byte) (s : State) : exec (.rxByte d) s = .next (rxBytePhase d s) := rfl
@[simp] theorem exec_rxIdle (s : State) : exec .rxIdle s = .next (rxIdlePhase s) := rfl
@[simp] theorem exec_busNop (s : State) : exec .busNop s = .next (s.respond 0#32) := rfl
@[simp] theorem exec_rdCtrl (s : State) : exec .rdCtrl s = .next (s.respond ((flagBit s.ctrl.en).setWidth 32)) := rfl
@[simp] theorem exec_rdStatus (s : State) : exec .rdStatus s = .next (s.respond (statusWord s)) := rfl
@[simp] theorem exec_rdEvents (s : State) : exec .rdEvents s = .next (s.respond (s.log.events.setWidth 32)) := rfl
@[simp] theorem exec_rdIrqEn (s : State) : exec .rdIrqEn s = .next (s.respond (s.ctrl.irqEn.setWidth 32)) := rfl
@[simp] theorem exec_rdTimeout (s : State) : exec .rdTimeout s = .next (s.respond (s.ctrl.timeout)) := rfl
@[simp] theorem exec_rdFrameLen (s : State) : exec .rdFrameLen s = .next (s.respond (s.frame.frameLen.setWidth 32)) := rfl
@[simp] theorem exec_rdButtons (s : State) : exec .rdButtons s = .next (s.respond (s.dec.buttons.setWidth 32)) := rfl
@[simp] theorem exec_rdLstick (s : State) : exec .rdLstick s = .next (s.respond (s.dec.lstick.setWidth 32)) := rfl
@[simp] theorem exec_rdRstick (s : State) : exec .rdRstick s = .next (s.respond (s.dec.rstick.setWidth 32)) := rfl
@[simp] theorem exec_rdFps (s : State) : exec .rdFps s = .next (s.respond (s.trk.fps)) := rfl
@[simp] theorem exec_rdElapsed (s : State) : exec .rdElapsed s = .next (s.respond (s.trk.elapsed)) := rfl
@[simp] theorem exec_rdPayload (k : BitVec 6) (s : State) :
    exec (.rdPayload k) s = .next (s.respond (payloadWord s.frame k.toNat)) := rfl
@[simp] theorem exec_rdRsvd (a : BitVec 10) (s : State) : exec (.rdRsvd a) s = .next (s.respond 0#32) := rfl
@[simp] theorem exec_wrStatus (v : Word) (s : State) : exec (.wrStatus v) s = .next (s.respond 0#32) := rfl
@[simp] theorem exec_wrFrameLen (v : Word) (s : State) : exec (.wrFrameLen v) s = .next (s.respond 0#32) := rfl
@[simp] theorem exec_wrButtons (v : Word) (s : State) : exec (.wrButtons v) s = .next (s.respond 0#32) := rfl
@[simp] theorem exec_wrLstick (v : Word) (s : State) : exec (.wrLstick v) s = .next (s.respond 0#32) := rfl
@[simp] theorem exec_wrRstick (v : Word) (s : State) : exec (.wrRstick v) s = .next (s.respond 0#32) := rfl
@[simp] theorem exec_wrFps (v : Word) (s : State) : exec (.wrFps v) s = .next (s.respond 0#32) := rfl
@[simp] theorem exec_wrElapsed (v : Word) (s : State) : exec (.wrElapsed v) s = .next (s.respond 0#32) := rfl
@[simp] theorem exec_wrPayload (k : BitVec 6) (v : Word) (s : State) :
    exec (.wrPayload k v) s = .next (s.respond 0#32) := rfl
@[simp] theorem exec_wrRsvd (a : BitVec 10) (v : Word) (s : State) : exec (.wrRsvd a v) s = .next (s.respond 0#32) := rfl
@[simp] theorem exec_wrCtrl (v : Word) (s : State) :
    exec (.wrCtrl v) s = .next
      (if v.getLsbD 0 = false ∧ s.rx.fsm ≠ .halt then
        (({ s.respond 0#32 with ctrl.en := v.getLsbD 0 } : State)).endAttempt .hunt
      else { s.respond 0#32 with ctrl.en := v.getLsbD 0 }) := rfl
@[simp] theorem exec_wrEvents (v : Word) (s : State) :
    exec (.wrEvents v) s = .next { s.respond 0#32 with log.events := w1c s.log.events (v.extractLsb' 0 6) } := rfl
@[simp] theorem exec_wrIrqEn (v : Word) (s : State) :
    exec (.wrIrqEn v) s = .next { s.respond 0#32 with ctrl.irqEn := v.extractLsb' 0 6 } := rfl
@[simp] theorem exec_wrTimeout (v : Word) (s : State) :
    exec (.wrTimeout v) s = .next { s.respond 0#32 with ctrl.timeout := v } := rfl

@[simp] theorem andThen_next (s : State) (f : State → Host.Outcome State Fault Refusal) : andThen (.next s) f = f s := rfl

/-- The state an operation leads to. -/
def effect (i : Instr) (s : State) : State :=
  match exec i s with
  | .next t => t
  | .fault _ => s
  | .refused _ => s

/-- Every operation answers its effect. -/
theorem exec_eq_effect (i : Instr) (s : State) : exec i s = .next (effect i s) := by cases i <;> rfl

/-- The three STREAM operations. -/
def isStream : Instr → Bool
  | .rxFault | .rxByte _ | .rxIdle => true
  | _ => false

/-- The BUS operations. -/
def isBus : Instr → Bool
  | .reset | .rxFault | .rxByte _ | .rxIdle => false
  | _ => true

theorem decodeStream_isStream (w : BitVec 10) : isStream (decodeStream w) = true := by
  unfold decodeStream
  split_ifs <;> rfl

/-- A Boolean test of the operation a conditional picks. -/
theorem test_ite {f : Instr → Bool} {x : Bool} {c : Prop} [Decidable c] {i j : Instr} (hi : f i = x) (hj : f j = x) :
    f (if c then i else j) = x := by
  split <;> assumption

theorem decodeRead_isRead (a : BitVec 10) : (decodeRead a).isRead = true := by
  unfold decodeRead
  repeat' first | apply test_ite (f := Instr.isRead) | rfl

theorem decodeWrite_isRead (a : BitVec 10) (v : Word) : (decodeWrite a v).isRead = false := by
  unfold decodeWrite
  repeat' first | apply test_ite (f := Instr.isRead) | rfl

theorem decodeWrite_isBus (a : BitVec 10) (v : Word) : isBus (decodeWrite a v) = true := by
  unfold decodeWrite
  repeat' first | apply test_ite (f := isBus) | rfl

theorem isBus_of_isRead {j : Instr} (h : j.isRead = true) : isBus j = true := by
  cases j <;> first | rfl | cases h

theorem decodeBus_isBus (w : BitVec 14) (v : Word) : isBus (decodeBus w v) = true := by
  unfold decodeBus
  split
  · split
    · exact decodeWrite_isBus _ v
    · exact isBus_of_isRead (decodeRead_isRead _)
  · rfl

/-- What no stream operation writes, over all three. -/
theorem effect_streamKeeps {i : Instr} (h : isStream i = true) (s : State) : StreamKeeps s (effect i s) := by
  cases i <;> first | exact rxFaultPhase_streamKeeps s | exact rxBytePhase_streamKeeps _ s | exact rxIdlePhase_streamKeeps s | cases h

/-- A stream operation that is not an accepted end marker commits nothing. -/
theorem effect_no_commit {i : Instr} (h : isStream i = true) {s : State}
    (hn : ¬ (AtEndMarker s ∧ i = .rxByte 0xBB#8)) :
    (effect i s).frame = s.frame ∧ (effect i s).dec = s.dec ∧ (effect i s).committed = s.committed := by
  cases i
  case rxFault => exact rxFaultPhase_no_commit s
  case rxByte d => exact rxBytePhase_no_commit (fun hc => hn ⟨hc.1, congrArg Instr.rxByte hc.2⟩)
  case rxIdle => exact rxIdlePhase_no_commit s
  all_goals cases h

/-- An accepted end marker commits (R112). -/
theorem effect_commit {s : State} (h : AtEndMarker s) : effect (.rxByte 0xBB#8) s = acceptFrame s := by
  show rxBytePhase 0xBB#8 s = acceptFrame s
  unfold rxBytePhase
  rw [if_neg (by rw [h.1]; decide), if_neg (by rw [h.2]; decide), h.1]
  rfl

/-- What a bus operation does beside answering on `bus_rdata`: only four of them do anything. -/
def writeEffect (j : Instr) (s : State) : State :=
  match j with
  | .wrCtrl v =>
    let t : State := { s with ctrl.en := v.getLsbD 0 }
    if v.getLsbD 0 = false ∧ s.rx.fsm ≠ .halt then t.endAttempt .hunt else t
  | .wrEvents v => { s with log.events := w1c s.log.events (v.extractLsb' 0 6) }
  | .wrIrqEn v => { s with ctrl.irqEn := v.extractLsb' 0 6 }
  | .wrTimeout v => { s with ctrl.timeout := v }
  | _ => s

/-- What a bus operation answers on `bus_rdata` in state `s`. -/
def busAnswer (j : Instr) (s : State) : Word := (effect j s).out.busRdata

/-- A bus operation is its write effect and its answer. -/
theorem effect_bus {j : Instr} (h : isBus j = true) (s : State) :
    effect j s = (writeEffect j s).respond (busAnswer j s) := by
  cases j
  case wrCtrl v =>
    show (if _ then _ else _) = State.respond (writeEffect (.wrCtrl v) s) (State.out (if _ then _ else _)).busRdata
    unfold writeEffect
    dsimp only
    by_cases hc : v.getLsbD 0 = false ∧ s.rx.fsm ≠ .halt
    · rw [if_pos hc, if_pos hc]
      rfl
    · rw [if_neg hc, if_neg hc]
      rfl
  all_goals first | rfl | cases h

/-- A read has no write effect. -/
theorem writeEffect_read {j : Instr} (h : j.isRead = true) (s : State) : writeEffect j s = s := by
  cases j <;> first | rfl | cases h

/-! What a write effect leaves alone. -/

@[simp] theorem writeEffect_params (j : Instr) (s : State) : (writeEffect j s).params = s.params := by
  cases j
  case wrCtrl v =>
    show State.params (if _ then _ else _) = s.params
    split <;> rfl
  all_goals rfl

@[simp] theorem writeEffect_frame (j : Instr) (s : State) : (writeEffect j s).frame = s.frame := by
  cases j
  case wrCtrl v =>
    show State.frame (if _ then _ else _) = s.frame
    split <;> rfl
  all_goals rfl

@[simp] theorem writeEffect_dec (j : Instr) (s : State) : (writeEffect j s).dec = s.dec := by
  cases j
  case wrCtrl v =>
    show State.dec (if _ then _ else _) = s.dec
    split <;> rfl
  all_goals rfl

@[simp] theorem writeEffect_trk (j : Instr) (s : State) : (writeEffect j s).trk = s.trk := by
  cases j
  case wrCtrl v =>
    show State.trk (if _ then _ else _) = s.trk
    split <;> rfl
  all_goals rfl

@[simp] theorem writeEffect_committed (j : Instr) (s : State) : (writeEffect j s).committed = s.committed := by
  cases j
  case wrCtrl v =>
    show State.committed (if _ then _ else _) = s.committed
    split <;> rfl
  all_goals rfl

@[simp] theorem writeEffect_out (j : Instr) (s : State) : (writeEffect j s).out = s.out := by
  cases j
  case wrCtrl v =>
    show State.out (if _ then _ else _) = s.out
    split <;> rfl
  all_goals rfl

@[simp] theorem writeEffect_inputs (j : Instr) (s : State) : (writeEffect j s).inputs = s.inputs := by
  cases j
  case wrCtrl v =>
    show State.inputs (if _ then _ else _) = s.inputs
    split <;> rfl
  all_goals rfl

@[simp] theorem writeEffect_draws (j : Instr) (s : State) : (writeEffect j s).draws = s.draws := by
  cases j
  case wrCtrl v =>
    show State.draws (if _ then _ else _) = s.draws
    split <;> rfl
  all_goals rfl

@[simp] theorem writeEffect_cycle (j : Instr) (s : State) : (writeEffect j s).cycle = s.cycle := by
  cases j
  case wrCtrl v =>
    show State.cycle (if _ then _ else _) = s.cycle
    split <;> rfl
  all_goals rfl

@[simp] theorem writeEffect_lastErr (j : Instr) (s : State) : (writeEffect j s).log.lastErr = s.log.lastErr := by
  cases j
  case wrCtrl v =>
    show (State.log (if _ then _ else _)).lastErr = s.log.lastErr
    split <;> rfl
  all_goals rfl

@[simp] theorem writeEffect_rxbuf (j : Instr) (s : State) : (writeEffect j s).rx.rxbuf = s.rx.rxbuf := by
  cases j
  case wrCtrl v =>
    show (State.rx (if _ then _ else _)).rxbuf = s.rx.rxbuf
    split <;> rfl
  all_goals rfl

/-- A write and BUS.NOP answer 0. -/
theorem busAnswer_other {j : Instr} (hb : isBus j = true) (h : j.isRead = false) (s : State) : busAnswer j s = 0#32 := by
  cases j
  case wrCtrl v =>
    show (State.out (if _ then _ else _)).busRdata = 0#32
    split <;> rfl
  all_goals first | rfl | exact Bool.noConfusion h | exact Bool.noConfusion hb

/-- A read answers the same whatever the output ports, `committed`, `inputs` and the counters of the model hold. -/
theorem busAnswer_beginCycle {j : Instr} (h : j.isRead = true) (s : State) :
    busAnswer j (beginCycle s) = busAnswer j s := by
  cases j <;> first | rfl | cases h

/-- A stream operation does not see the bus answer. -/
theorem effect_stream_respond {i : Instr} (h : isStream i = true) (s : State) (r : Word) :
    effect i (s.respond r) = (effect i s).respond r := by
  have hx : expired (s.respond r) = expired s := rfl
  cases i
  case rxFault =>
    show rxFaultPhase _ = (rxFaultPhase _).respond r
    unfold rxFaultPhase
    by_cases hf : s.rx.fsm = .halt <;> simp only [respond_rx, hf, if_true, if_false]
    all_goals rfl
  case rxByte d =>
    show rxBytePhase d _ = (rxBytePhase d _).respond r
    unfold rxBytePhase
    cases hf : s.rx.fsm <;> simp only [respond_rx, respond_ctrl, hf]
    case payload =>
      unfold takePayload
      simp only [respond_rx, hx]
      split_ifs <;> rfl
    case endMark =>
      unfold acceptFrame commit decodePayload
      simp only [respond_rx, respond_frame]
      by_cases h1 : s.ctrl.en = false <;> by_cases h2 : d = eof <;>
        by_cases h3 : s.rx.rxLen.toNat < minDecodeLen <;>
        simp only [h1, h2, h3, if_true, if_false, reduceCtorEq] <;> rfl
    all_goals split_ifs <;> rfl
  case rxIdle =>
    show rxIdlePhase _ = (rxIdlePhase _).respond r
    unfold rxIdlePhase waitTimed
    cases hf : s.rx.fsm <;> simp only [respond_rx, respond_ctrl, hf, hx] <;> split_ifs <;> rfl
  all_goals cases h

/-- A normal cycle, said once: outputs are taken, the stream phase, the rate phase, the write effect and the composition
of EVENTS follow, and the bus answer is that of the state at the start of the cycle. -/
theorem normalCycle_eq {i j : Instr} (hi : isStream i = true) (hj : isBus j = true) (s : State) :
    normalCycle i j s =
      .next ((endCycle (writeEffect j (ratePhase (effect i (beginCycle s))))).respond (busAnswer j s)) := by
  cases hr : j.isRead
  · simp only [normalCycle, hr, Bool.false_eq_true, if_false, exec_eq_effect, andThen_next, effect_bus hj,
      busAnswer_other hj hr]
    rfl
  · simp only [normalCycle, hr, if_true, exec_eq_effect, andThen_next, effect_bus hj, writeEffect_read hr,
      effect_stream_respond hi, busAnswer_beginCycle hr]
    rfl

theorem runCycle_reset {v : CycleIn} (h : v.ctl = 1#1) (s : State) :
    runCycle v s = .next (State.resetWith s.params s.inputs s.draws) := by
  simp [runCycle, decode, h]

theorem runCycle_normal {v : CycleIn} (h : v.ctl = 0#1) (s : State) :
    runCycle v s = normalCycle (decodeStream v.stream) (decodeBus v.bus v.wdata) s := by
  simp [runCycle, decode, h]

/-- The step on a listed input vector. -/
theorem step_listed {s : State} {v : CycleIn} {rest : List CycleIn} (h : s.inputs = v :: rest) :
    step s = runCycle v { s with inputs := rest } := by
  simp [step, nextInput, consumeInput, h]

/-- A step whose listed input vector is a normal cycle, said once. -/
theorem step_normal {s : State} {v : CycleIn} {rest : List CycleIn} (h : s.inputs = v :: rest) (hc : v.ctl = 0#1) :
    step s = .next ((endCycle (writeEffect (decodeBus v.bus v.wdata)
      (ratePhase (effect (decodeStream v.stream) (beginCycle { s with inputs := rest }))))).respond
      (busAnswer (decodeBus v.bus v.wdata) { s with inputs := rest })) := by
  rw [step_listed h, runCycle_normal hc]
  exact normalCycle_eq (decodeStream_isStream _) (decodeBus_isBus _ _) _

/-- The step on a free input vector. -/
theorem step_free {s : State} (h : s.inputs = []) :
    step s = runCycle (freeInput s.draws) { s with draws := s.draws + 1 } := by
  cases s
  cases h
  rfl

end Sys2Proof.Machine
end

