-- ==== Sys2Proof/Laws/PerInstr.lean ====
section
/-! SUPPORT. Per-instruction family `EncodesItsRow`: the encoder's word has the match value of its row of
spec/opcode_table.json under that row's mask, in that row's format. -/

namespace Sys2Proof.Laws.EncodesItsRow

/-- The word is a CTL word with `w &&& mask = mtch`. -/
def ctlRow (mask mtch : BitVec 1) (o : OpWord) : Prop := ∃ w, o = .ctl w ∧ w &&& mask = mtch

/-- The word is a STREAM word with `w &&& mask = mtch`. -/
def streamRow (mask mtch : BitVec 10) (o : OpWord) : Prop := ∃ w, o = .stream w ∧ w &&& mask = mtch

/-- The word is a BUS word with `w &&& mask = mtch` and the operand `v`. -/
def busRow (mask mtch : BitVec 14) (v : Word) (o : OpWord) : Prop := ∃ w, o = .bus w v ∧ w &&& mask = mtch

/-- The encoding of the operation is a word of its row. -/
def Statement : Instr → Prop
  | .reset => ctlRow 0x1#1 0x1#1 (encode (.reset))
  | .rxFault => streamRow 0x200#10 0x200#10 (encode (.rxFault))
  | .rxByte d => streamRow 0x300#10 0x100#10 (encode (.rxByte d))
  | .rxIdle => streamRow 0x300#10 0x000#10 (encode (.rxIdle))
  | .busNop => busRow 0x2000#14 0x0000#14 0#32 (encode (.busNop))
  | .rdCtrl => busRow 0x3FFC#14 0x2000#14 0#32 (encode (.rdCtrl))
  | .wrCtrl v => busRow 0x3FFC#14 0x3000#14 v (encode (.wrCtrl v))
  | .rdStatus => busRow 0x3FFC#14 0x2004#14 0#32 (encode (.rdStatus))
  | .wrStatus v => busRow 0x3FFC#14 0x3004#14 v (encode (.wrStatus v))
  | .rdEvents => busRow 0x3FFC#14 0x2008#14 0#32 (encode (.rdEvents))
  | .wrEvents v => busRow 0x3FFC#14 0x3008#14 v (encode (.wrEvents v))
  | .rdIrqEn => busRow 0x3FFC#14 0x200C#14 0#32 (encode (.rdIrqEn))
  | .wrIrqEn v => busRow 0x3FFC#14 0x300C#14 v (encode (.wrIrqEn v))
  | .rdTimeout => busRow 0x3FFC#14 0x2010#14 0#32 (encode (.rdTimeout))
  | .wrTimeout v => busRow 0x3FFC#14 0x3010#14 v (encode (.wrTimeout v))
  | .rdFrameLen => busRow 0x3FFC#14 0x2014#14 0#32 (encode (.rdFrameLen))
  | .wrFrameLen v => busRow 0x3FFC#14 0x3014#14 v (encode (.wrFrameLen v))
  | .rdButtons => busRow 0x3FFC#14 0x2018#14 0#32 (encode (.rdButtons))
  | .wrButtons v => busRow 0x3FFC#14 0x3018#14 v (encode (.wrButtons v))
  | .rdLstick => busRow 0x3FFC#14 0x201C#14 0#32 (encode (.rdLstick))
  | .wrLstick v => busRow 0x3FFC#14 0x301C#14 v (encode (.wrLstick v))
  | .rdRstick => busRow 0x3FFC#14 0x2020#14 0#32 (encode (.rdRstick))
  | .wrRstick v => busRow 0x3FFC#14 0x3020#14 v (encode (.wrRstick v))
  | .rdFps => busRow 0x3FFC#14 0x2024#14 0#32 (encode (.rdFps))
  | .wrFps v => busRow 0x3FFC#14 0x3024#14 v (encode (.wrFps v))
  | .rdElapsed => busRow 0x3FFC#14 0x2028#14 0#32 (encode (.rdElapsed))
  | .wrElapsed v => busRow 0x3FFC#14 0x3028#14 v (encode (.wrElapsed v))
  | .rdPayload k => busRow 0x3F00#14 0x2100#14 0#32 (encode (.rdPayload k))
  | .wrPayload k v => busRow 0x3F00#14 0x3100#14 v (encode (.wrPayload k v))
  | .rdRsvd a => busRow 0x3000#14 0x2000#14 0#32 (encode (.rdRsvd a))
  | .wrRsvd a v => busRow 0x3000#14 0x3000#14 v (encode (.wrRsvd a v))

theorem row_mask_rxByte (d : Byte) : (0b01#2 ++ d) &&& 0x300#10 = 0x100#10 := by
  show (0b01#2 ++ d) &&& (0b11#2 ++ 0#8) = 0b01#2 ++ 0#8
  rw [BitVec.and_append]
  simp

theorem row_mask_rdPayload (k : BitVec 6) : (0b10#2 ++ (0x1#4 ++ (k ++ 0b00#2))) &&& 0x3F00#14 = 0x2100#14 := by
  revert k
  decide

theorem row_mask_wrPayload (k : BitVec 6) : (0b11#2 ++ (0x1#4 ++ (k ++ 0b00#2))) &&& 0x3F00#14 = 0x3100#14 := by
  revert k
  decide

theorem row_mask_rdRsvd (a : BitVec 10) : (0b10#2 ++ (a ++ 0b00#2)) &&& 0x3000#14 = 0x2000#14 := by
  show (0b10#2 ++ (a ++ 0b00#2)) &&& (0b11#2 ++ 0#12) = 0b10#2 ++ 0#12
  rw [BitVec.and_append]
  simp

theorem row_mask_wrRsvd (a : BitVec 10) : (0b11#2 ++ (a ++ 0b00#2)) &&& 0x3000#14 = 0x3000#14 := by
  show (0b11#2 ++ (a ++ 0b00#2)) &&& (0b11#2 ++ 0#12) = 0b11#2 ++ 0#12
  rw [BitVec.and_append]
  simp

theorem reset : Statement .reset := ⟨_, rfl, rfl⟩
theorem rxFault : Statement .rxFault := ⟨_, rfl, rfl⟩
theorem rxByte (d : Byte) : Statement (.rxByte d) := ⟨_, rfl, row_mask_rxByte d⟩
theorem rxIdle : Statement .rxIdle := ⟨_, rfl, rfl⟩
theorem busNop : Statement .busNop := ⟨_, rfl, rfl⟩
theorem rdCtrl : Statement .rdCtrl := ⟨_, rfl, rfl⟩
theorem wrCtrl (v : Word) : Statement (.wrCtrl v) := ⟨_, rfl, rfl⟩
theorem rdStatus : Statement .rdStatus := ⟨_, rfl, rfl⟩
theorem wrStatus (v : Word) : Statement (.wrStatus v) := ⟨_, rfl, rfl⟩
theorem rdEvents : Statement .rdEvents := ⟨_, rfl, rfl⟩
theorem wrEvents (v : Word) : Statement (.wrEvents v) := ⟨_, rfl, rfl⟩
theorem rdIrqEn : Statement .rdIrqEn := ⟨_, rfl, rfl⟩
theorem wrIrqEn (v : Word) : Statement (.wrIrqEn v) := ⟨_, rfl, rfl⟩
theorem rdTimeout : Statement .rdTimeout := ⟨_, rfl, rfl⟩
theorem wrTimeout (v : Word) : Statement (.wrTimeout v) := ⟨_, rfl, rfl⟩
theorem rdFrameLen : Statement .rdFrameLen := ⟨_, rfl, rfl⟩
theorem wrFrameLen (v : Word) : Statement (.wrFrameLen v) := ⟨_, rfl, rfl⟩
theorem rdButtons : Statement .rdButtons := ⟨_, rfl, rfl⟩
theorem wrButtons (v : Word) : Statement (.wrButtons v) := ⟨_, rfl, rfl⟩
theorem rdLstick : Statement .rdLstick := ⟨_, rfl, rfl⟩
theorem wrLstick (v : Word) : Statement (.wrLstick v) := ⟨_, rfl, rfl⟩
theorem rdRstick : Statement .rdRstick := ⟨_, rfl, rfl⟩
theorem wrRstick (v : Word) : Statement (.wrRstick v) := ⟨_, rfl, rfl⟩
theorem rdFps : Statement .rdFps := ⟨_, rfl, rfl⟩
theorem wrFps (v : Word) : Statement (.wrFps v) := ⟨_, rfl, rfl⟩
theorem rdElapsed : Statement .rdElapsed := ⟨_, rfl, rfl⟩
theorem wrElapsed (v : Word) : Statement (.wrElapsed v) := ⟨_, rfl, rfl⟩
theorem rdPayload (k : BitVec 6) : Statement (.rdPayload k) := ⟨_, rfl, row_mask_rdPayload k⟩
theorem wrPayload (k : BitVec 6) (v : Word) : Statement (.wrPayload k v) := ⟨_, rfl, row_mask_wrPayload k⟩
theorem rdRsvd (a : BitVec 10) : Statement (.rdRsvd a) := ⟨_, rfl, row_mask_rdRsvd a⟩
theorem wrRsvd (a : BitVec 10) (v : Word) : Statement (.wrRsvd a v) := ⟨_, rfl, row_mask_wrRsvd a⟩

end Sys2Proof.Laws.EncodesItsRow
end

