-- ==== Sys2Proof/Tests/Slice0.lean ====
section
/-! SUPPORT. The model's own tests. Words and expected values are those of spec/opcode_table.json, 30_encoding.md and
95_test_vectors.md (the row's id stands in the docstring), or are worked out by hand from the rule named. The last part
shows, for every statement that has hypotheses, a concrete state that meets them. -/

namespace Sys2Proof.Tests

open Sys2Proof Sys2Proof.Machine

/-! ## Helpers -/

/-- A machine right after reset with TICKS_PER_SEC = 8 and TIMEOUT_RESET = 16. -/
def quiet : State := State.resetWith { ticksLess1 := 7, timeoutReset := 16#32 } [] 0

/-- The one input vector of the coming cycle: STREAM, BUS, WDATA. -/
def present (s : State) (stream : BitVec 10) (bus : BitVec 14) (wdata : Word) : State :=
  { s with inputs := [⟨0#1, stream, bus, wdata⟩] }

/-- `quiet` with the receiver in the middle of an attempt. -/
def inState (f : RxState) (len idx : Byte) (tmr : Word) : State :=
  { quiet with rx.fsm := f, rx.rxLen := len, rx.rxIdx := idx, rx.tmr := tmr }

/-- The payload of program P2: 00 00 00, 80 02 01, 12 34 56, AB CD EF. -/
def p2Payload : Memory :=
  [(3, 0x80#8), (4, 0x02#8), (5, 0x01#8), (6, 0x12#8), (7, 0x34#8), (8, 0x56#8), (9, 0xAB#8), (10, 0xCD#8), (11, 0xEF#8)]

/-- Program P2 at c15: END with the whole payload received. -/
def beforeCommit : State :=
  { quiet with rx.fsm := .endMark, rx.rxLen := 12#8, rx.rxIdx := 12#8, rx.rxbuf := p2Payload }

/-- Program P2 after its commit. -/
def afterCommit : State :=
  { quiet with
    frame.framebuf := p2Payload, frame.frameLen := 12#8, frame.frameValid := true,
    dec := { buttons := 0x800201#24, lstick := 0x123456#24, rstick := 0xABCDEF#24, decValid := true },
    log.events := 0b000001#6 }

/-- The receiver stopped. -/
def halted : State := { quiet with rx.fsm := .halt, log.lastErr := some .fatal }

/-- The receiver disabled. -/
def disabled : State := { quiet with ctrl.en := false }

/-- The state an operation or a step leads to. -/
def nextOf (o : Host.Outcome State Fault Refusal) : Option State :=
  match o with
  | .next t => some t
  | .fault _ => none
  | .refused _ => none

/-- The bus answer of one operation. -/
def answer (i : Instr) (s : State) : Option Word := (nextOf (exec i s)).map (·.out.busRdata)

/-! ## Well-formed terms -/

/-- R82: 0x000, 0x028, 0x100, 0x1FC are no reserved addresses. -/
theorem test_wf_refuses_decoded_addresses :
    Instr.wf (.rdRsvd 0x000#10) = false ∧ Instr.wf (.rdRsvd 0x00A#10) = false ∧
    Instr.wf (.rdRsvd 0x040#10) = false ∧ Instr.wf (.rdRsvd 0x07F#10) = false ∧
    Instr.wf (.wrRsvd 0x000#10 0#32) = false ∧ Instr.wf (.wrRsvd 0x00A#10 0#32) = false ∧
    Instr.wf (.wrRsvd 0x040#10 0#32) = false ∧ Instr.wf (.wrRsvd 0x07F#10 0#32) = false := by decide

/-- R82: 0x02C, 0x0FC, 0x200, 0xFFC are reserved (VB9). -/
theorem test_wf_accepts_reserved_addresses :
    Instr.wf (.rdRsvd 0x00B#10) = true ∧ Instr.wf (.rdRsvd 0x03F#10) = true ∧
    Instr.wf (.wrRsvd 0x080#10 0#32) = true ∧ Instr.wf (.wrRsvd 0x3FF#10 0#32) = true := by decide

/-! ## Decoding: the words of spec/opcode_table.json -/

/-- R78, R79: CTL and STREAM; F over V over neither. -/
theorem test_decode_ctl_and_stream :
    decode (.ctl 0b1#1) = .ok .reset ∧ decode (.ctl 0b0#1) = .error .normalStep ∧
    decode (.stream 0b1000000000#10) = .ok .rxFault ∧ decode (.stream 0b1110101010#10) = .ok .rxFault ∧
    decode (.stream 0b0110101010#10) = .ok (.rxByte 0xAA#8) ∧ decode (.stream 0b0100000001#10) = .ok (.rxByte 0x01#8) ∧
    decode (.stream 0b0000000000#10) = .ok .rxIdle ∧ decode (.stream 0b0011111111#10) = .ok .rxIdle := by decide

/-- R80, R82: BUS bit 13 S, bit 12 W, bits 11:2 the word address. -/
theorem test_decode_bus_reads :
    decode (.bus 0b00000000000000#14 0#32) = .ok .busNop ∧ decode (.bus 0b10000000000000#14 0#32) = .ok .rdCtrl ∧
    decode (.bus 0b10000000000100#14 0#32) = .ok .rdStatus ∧ decode (.bus 0b10000000001000#14 0#32) = .ok .rdEvents ∧
    decode (.bus 0b10000000001100#14 0#32) = .ok .rdIrqEn ∧ decode (.bus 0b10000000010000#14 0#32) = .ok .rdTimeout ∧
    decode (.bus 0b10000000010100#14 0#32) = .ok .rdFrameLen ∧
    decode (.bus 0b10000000011000#14 0#32) = .ok .rdButtons ∧ decode (.bus 0b10000000011100#14 0#32) = .ok .rdLstick ∧
    decode (.bus 0b10000000100000#14 0#32) = .ok .rdRstick ∧ decode (.bus 0b10000000100100#14 0#32) = .ok .rdFps ∧
    decode (.bus 0b10000000101000#14 0#32) = .ok .rdElapsed := by decide

/-- R82: the PAYLOAD window, from its first to its last word, and what lies around it. -/
theorem test_decode_windows :
    decode (.bus 0b10000100000000#14 0#32) = .ok (.rdPayload 0#6) ∧
    decode (.bus 0b10000111111100#14 0#32) = .ok (.rdPayload 63#6) ∧
    decode (.bus 0b11000100010100#14 7#32) = .ok (.wrPayload 5#6 7#32) ∧
    decode (.bus 0b10000000101100#14 0#32) = .ok (.rdRsvd 0x00B#10) ∧
    decode (.bus 0b10000011111100#14 0#32) = .ok (.rdRsvd 0x03F#10) ∧
    decode (.bus 0b10001000000000#14 0#32) = .ok (.rdRsvd 0x080#10) ∧
    decode (.bus 0b11111111111111#14 7#32) = .ok (.wrRsvd 0x3FF#10 7#32) := by decide

/-- R80, R82: the writes carry WDATA. -/
theorem test_decode_bus_writes :
    decode (.bus 0b11000000000000#14 9#32) = .ok (.wrCtrl 9#32) ∧
    decode (.bus 0b11000000000100#14 9#32) = .ok (.wrStatus 9#32) ∧
    decode (.bus 0b11000000001000#14 9#32) = .ok (.wrEvents 9#32) ∧
    decode (.bus 0b11000000001100#14 9#32) = .ok (.wrIrqEn 9#32) ∧
    decode (.bus 0b11000000010000#14 9#32) = .ok (.wrTimeout 9#32) ∧
    decode (.bus 0b11000000010100#14 9#32) = .ok (.wrFrameLen 9#32) ∧
    decode (.bus 0b11000000011000#14 9#32) = .ok (.wrButtons 9#32) ∧
    decode (.bus 0b11000000011100#14 9#32) = .ok (.wrLstick 9#32) ∧
    decode (.bus 0b11000000100000#14 9#32) = .ok (.wrRstick 9#32) ∧
    decode (.bus 0b11000000100100#14 9#32) = .ok (.wrFps 9#32) ∧
    decode (.bus 0b11000000101000#14 9#32) = .ok (.wrElapsed 9#32) := by decide

/-- Log entry 1: table words, by their width in whole bytes. -/
theorem test_table_words :
    decodeTableWord 8 1 = some .reset ∧ decodeTableWord 8 0 = none ∧ decodeTableWord 16 0x3AA = some .rxFault ∧
    decodeTableWord 16 0x1AA = some (.rxByte 0xAA#8) ∧ decodeTableWord 16 0x000 = some .rxIdle ∧
    decodeTableWord 16 0x1FFF = some .busNop ∧ decodeTableWord 16 0x2019 = some .rdButtons ∧
    decodeTableWord 16 0x3010 = some (.wrTimeout 0#32) ∧ decodeTableWord 16 0x4000 = none ∧
    decodeTableWord 48 0x103010 = some (.wrTimeout 16#32) ∧ decodeTableWord 14 0 = some .busNop := by decide

/-- Right after reset a step runs the word placed by `withFetchWord`, for a word of each format. -/
theorem test_step_runs_the_placed_word :
    (nextOf (step (State.reset.withFetchWord 8 1))).map (·.cycle) = some 0 ∧
    (nextOf (step (State.reset.withFetchWord 16 0x200))).map (·.rx.fsm) = some .halt ∧
    (nextOf (step (State.reset.withFetchWord 16 0x1AA))).map (·.rx.fsm) = some .len ∧
    (nextOf (step (State.reset.withFetchWord 16 0x2000))).map (·.out.busRdata) = some 1#32 ∧
    (nextOf (step (State.reset.withFetchWord 48 0xFFFFFFFF300C))).map (·.ctrl.irqEn) = some 0x3F#6 := by decide

/-! ## One operation, one vector -/

/-- VX2, VX3, VX6: RESET overrides the other words. -/
theorem test_reset :
    (nextOf (step { halted with log.events := 0x20#6, ctrl.irqEn := 0x3F#6, inputs := [⟨1#1, 0x1AA#10, 0x3000#14, 0#32⟩] }))
      = some quiet := by decide

/-- VR19, VR24: a fault is taken in PAYLOAD and while disabled. -/
theorem test_rxFault :
    (nextOf (exec .rxFault (inState .payload 5#8 2#8 1#32))).map (fun t => (t.rx.fsm, t.log.lastErr, t.out.ev))
      = some (.halt, some .fatal, 0x20#6) ∧
    (nextOf (exec .rxFault disabled)).map (·.rx.fsm) = some .halt := by decide

/-- VR21: in HALT a further fault does nothing. -/
theorem test_rxFault_in_halt : nextOf (exec .rxFault halted) = some halted := by decide

/-- VR2, VR3, VR4: an end marker is noise in HUNT, a start marker starts, a second start marker is a length. -/
theorem test_rxByte_markers :
    nextOf (exec (.rxByte 0xBB#8) quiet) = some quiet ∧
    (nextOf (exec (.rxByte 0xAA#8) quiet)).map (·.rx.fsm) = some .len ∧
    (nextOf (exec (.rxByte 0xAA#8) (inState .len 0#8 0#8 0#32))).map (fun t => (t.rx.fsm, t.rx.rxLen.toNat))
      = some (.payload, 170) := by decide

/-- Program P2, c15: the commit decodes. -/
theorem test_rxByte_commit :
    (nextOf (exec (.rxByte 0xBB#8) beforeCommit)).map (fun t => (t.dec, t.frame, t.out.ev))
      = some (afterCommit.dec, afterCommit.frame, 0x01#6) := by decide

/-- VR11, VR17: TIMEOUT = 1 in LEN, TIMEOUT = 2 in END. -/
theorem test_rxIdle_expires :
    (nextOf (exec .rxIdle { inState .len 0#8 0#8 0#32 with ctrl.timeout := 1#32 })).map (·.log.lastErr)
      = some (some .lengthTimeout) ∧
    (nextOf (exec .rxIdle { inState .endMark 0#8 0#8 1#32 with ctrl.timeout := 2#32 })).map (·.log.lastErr)
      = some (some .frameMismatch) := by decide

/-- R25: `tmr` saturates; with TIMEOUT = 0 nothing expires (VR18). -/
theorem test_rxIdle_saturates :
    (nextOf (exec .rxIdle { inState .len 0#8 0#8 0xFFFFFFFF#32 with ctrl.timeout := 0#32 })).map (·.rx)
      = some (inState .len 0#8 0#8 0xFFFFFFFF#32).rx := by decide

/-- VB17. -/
theorem test_busNop : answer .busNop { quiet with out.busRdata := 5#32 } = some 0#32 := by decide

/-- VB1, VB5. -/
theorem test_rdCtrl : answer .rdCtrl quiet = some 1#32 ∧ answer .rdCtrl disabled = some 0#32 := by decide

/-- VB5, VR25: only bit 0 counts; an attempt is discarded. -/
theorem test_wrCtrl :
    nextOf (exec (.wrCtrl 0xFFFFFFFE#32) (inState .payload 5#8 2#8 1#32)) = some disabled := by decide

/-- P1 c11, P2 c21, P6 c5. -/
theorem test_rdStatus :
    answer .rdStatus { quiet with frame.frameValid := true, log.lastErr := some .payloadTooShort } = some 0x408#32 ∧
    answer .rdStatus afterCommit = some 0x18#32 ∧ answer .rdStatus halted = some 0x504#32 := by decide

/-- VB6. -/
theorem test_wrStatus : nextOf (exec (.wrStatus 0xFFFFFFFF#32) afterCommit) = some afterCommit := by decide

/-- VB14. -/
theorem test_rdEvents : answer .rdEvents { quiet with log.events := 0x19#6 } = some 0x19#32 := by decide

/-- VB12. -/
theorem test_wrEvents :
    (nextOf (exec (.wrEvents 0x11#32) { quiet with log.events := 0x19#6 })).map (·.log.events) = some 0x08#6 := by decide

/-- VB13: the set wins over the clear, in one cycle. -/
theorem test_wrEvents_set_wins :
    (nextOf (step (present { beforeCommit with log.events := 0x01#6 } 0x1BB#10 0x3008#14 1#32))).map (·.log.events)
      = some 0x01#6 := by decide

/-- VB4. -/
theorem test_irqEn :
    (nextOf (exec (.wrIrqEn 0xFFFFFFFF#32) quiet)).map (·.ctrl.irqEn) = some 0x3F#6 ∧
    answer .rdIrqEn { quiet with ctrl.irqEn := 0x3F#6 } = some 0x3F#32 := by decide

/-- VB3, VB15. -/
theorem test_timeout :
    answer .rdTimeout quiet = some 16#32 ∧
    (nextOf (exec (.wrTimeout 0#32) quiet)).map (·.ctrl.timeout) = some 0#32 := by decide

/-- VB16: the write cycle runs under the old TIMEOUT. -/
theorem test_wrTimeout_acts_after_the_cycle :
    (nextOf (step (present (inState .len 0#8 0#8 5#32) 0x000#10 0x3010#14 3#32))).map
      (fun t => (t.rx.fsm, t.rx.tmr, t.ctrl.timeout)) = some (.len, 6#32, 3#32) := by decide

/-- P1 c8, VB7. -/
theorem test_frameLen :
    answer .rdFrameLen afterCommit = some 12#32 ∧
    nextOf (exec (.wrFrameLen 0x12#32) afterCommit) = some afterCommit := by decide

/-- P2 c18 to c20. -/
theorem test_decoded_reads :
    answer .rdButtons afterCommit = some 0x00800201#32 ∧ answer .rdLstick afterCommit = some 0x00123456#32 ∧
    answer .rdRstick afterCommit = some 0x00ABCDEF#32 := by decide

/-- R195, R197, R199. -/
theorem test_decoded_writes :
    nextOf (exec (.wrButtons 1#32) afterCommit) = some afterCommit ∧
    nextOf (exec (.wrLstick 1#32) afterCommit) = some afterCommit ∧
    nextOf (exec (.wrRstick 1#32) afterCommit) = some afterCommit := by decide

/-- R200, R202: the snapshot, not the live count. -/
theorem test_tracker_reads :
    answer .rdFps { quiet with trk.fps := 3#32, trk.winCount := 2#32 } = some 3#32 ∧
    answer .rdElapsed { quiet with trk.elapsed := 1#32, trk.presc := 7#32 } = some 1#32 := by decide

/-- R201, R203. -/
theorem test_tracker_writes :
    nextOf (exec (.wrFps 1#32) quiet) = some quiet ∧ nextOf (exec (.wrElapsed 1#32) quiet) = some quiet := by decide

/-- P2 c22 to c25, VB19: lanes are little-endian; at FRAME_LEN and above 0. -/
theorem test_rdPayload :
    answer (.rdPayload 0#6) afterCommit = some 0x80000000#32 ∧ answer (.rdPayload 1#6) afterCommit = some 0x34120102#32 ∧
    answer (.rdPayload 2#6) afterCommit = some 0xEFCDAB56#32 ∧ answer (.rdPayload 3#6) afterCommit = some 0#32 ∧
    answer (.rdPayload 1#6) { quiet with frame := { framebuf := [(4, 5#8), (5, 6#8)], frameLen := 5#8, frameValid := true } }
      = some 5#32 := by decide

/-- VB11: a read in the commit cycle sees the old frame. -/
theorem test_rdPayload_in_the_commit_cycle :
    (nextOf (step (present beforeCommit 0x1BB#10 0x2104#14 0#32))).map (fun t => (t.out.busRdata, t.frame.frameLen))
      = some (0#32, 12#8) := by decide

/-- VB18, VB9, VB10. -/
theorem test_ignored_windows :
    nextOf (exec (.wrPayload 5#6 0xFFFFFFFF#32) afterCommit) = some afterCommit ∧
    answer (.rdRsvd 0x080#10) afterCommit = some 0#32 ∧
    nextOf (exec (.wrRsvd 0x200#10 1#32) afterCommit) = some afterCommit := by decide

/-! ## The cycle and the tracker -/

/-- VE1: `irq` follows the event by one cycle. -/
theorem test_irq_follows :
    (nextOf (step (present { beforeCommit with ctrl.irqEn := 1#6 } 0x1BB#10 0#14 0#32))).map (·.out.irq) = some false ∧
    (nextOf (step (present { afterCommit with ctrl.irqEn := 1#6 } 0#10 0#14 0#32))).map (·.out.irq) = some true := by decide

/-- VR26: a commit in the cycle that disables. -/
theorem test_commit_while_disabling :
    (nextOf (step (present beforeCommit 0x1BB#10 0x3000#14 0#32))).map (fun t => (t.log.events, t.ctrl.en, t.rx.fsm))
      = some (0x01#6, false, .hunt) := by decide

/-- P5 c12: the third commit, at age 8. -/
theorem test_window_closes :
    (nextOf (step (present { beforeCommit with trk.winAge := 8#32, trk.winCount := 2#32 } 0x1BB#10 0#14 0#32))).map
      (fun t => (t.trk.fps, t.trk.winCount, t.trk.winAge)) = some (3#32, 0#32, 1#32) := by decide

/-- P5 c7: the eighth tick, and the window's age saturating. -/
theorem test_uptime_tick :
    (nextOf (step (present { quiet with trk.presc := 7#32, trk.winAge := 8#32 } 0#10 0#14 0#32))).map
      (fun t => (t.trk.presc, t.trk.elapsed, t.trk.winAge)) = some (0#32, 1#32, 8#32) := by decide

/-! ## Witnesses: states that meet the hypotheses of the statements -/

/-- The invariant is met in PAYLOAD, in END and in HALT, by states that hold a committed frame. -/
theorem witness_inv :
    Inv { afterCommit with rx := (inState .payload 2#8 1#8 1#32).rx } ∧ Inv beforeCommit ∧ Inv halted := by
  refine ⟨?_, ?_, ?_⟩ <;> constructor <;> decide

theorem witness_DecodeOfEncodeIsTheOperation :
    Instr.wf (.rdRsvd 0x00B#10) = true ∧ Instr.wf (.wrRsvd 0x3FF#10 1#32) = true ∧
    Instr.wf (.rdPayload 63#6) = true ∧ Instr.wf (.rxByte 0xFF#8) = true := by decide

/-- One word for each clause. -/
theorem witness_BusDecodingFollowsTheOpcodeTable :
    (0x1FFF#14 &&& 0x2000#14 = 0x0000#14) ∧ (0x202B#14 &&& 0x3FFC#14 = 0x2028#14) ∧
    (0x21FF#14 &&& 0x3F00#14 = 0x2100#14) ∧ (0x3100#14 &&& 0x3F00#14 = 0x3100#14) ∧
    ((0x202C#14 &&& 0x3000#14 = 0x2000#14) ∧ (∀ r ∈ Claims.registerRows 0#32, 0x202C#14 &&& 0x3FFC#14 ≠ r.1) ∧
      0x202C#14 &&& 0x3F00#14 ≠ 0x2100#14) ∧
    ((0x3200#14 &&& 0x3000#14 = 0x3000#14) ∧ (∀ r ∈ Claims.registerRows 0#32, 0x3200#14 &&& 0x3FFC#14 ≠ r.1) ∧
      0x3200#14 &&& 0x3F00#14 ≠ 0x3100#14) := by decide

theorem witness_IgnoredBusBitsSelectNothing :
    (0x2019#14 &&& 0x3FFC#14 = 0x2018#14 &&& 0x3FFC#14) ∧ (0x1FFF#14).getLsbD 13 = false ∧
    (0x0000#14).getLsbD 13 = false ∧ (decodeBus 0x2018#14 5#32).isRead = true := by decide

/-- One input vector for each clause. -/
theorem witness_StepRunsThePresentedOperations :
    ({ quiet with inputs := [⟨1#1, 0x1AA#10, 0x3000#14, 0#32⟩] }).inputs = [⟨1#1, 0x1AA#10, 0x3000#14, 0#32⟩] ∧
    (present quiet 0x1AA#10 0x2000#14 0#32).inputs = [⟨0#1, 0x1AA#10, 0x2000#14, 0#32⟩] ∧
    decode (.stream 0x1AA#10) = .ok (.rxByte 0xAA#8) ∧ decode (.bus 0x2000#14 0#32) = .ok .rdCtrl ∧
    Instr.isRead .rdCtrl = true ∧ decode (.bus 0x3010#14 1#32) = .ok (.wrTimeout 1#32) ∧
    Instr.isRead (.wrTimeout 1#32) = false := by decide

theorem witness_FaultEntersHalt : (inState .payload 5#8 2#8 1#32).rx.fsm ≠ .halt ∧ disabled.rx.fsm ≠ .halt := by decide

theorem witness_HaltIgnoresEveryStreamOperation : halted.rx.fsm = .halt := by decide

theorem witness_DisabledReceiverDropsBytes : disabled.ctrl.en = false := by decide

theorem witness_HuntScansForTheStartMarker :
    quiet.rx.fsm = .hunt ∧ quiet.ctrl.en = true ∧ (0xAA#8 : Byte) = 0xAA#8 ∧ (0xAB#8 : Byte) ≠ 0xAA#8 := by decide

/-- Lengths 0, 1 and 255. -/
theorem witness_LengthByteIsTaken :
    (inState .len 0#8 0#8 3#32).rx.fsm = .len ∧ (inState .len 0#8 0#8 3#32).ctrl.en = true ∧
    (0#8 : Byte) = 0#8 ∧ (1#8 : Byte) ≠ 0#8 ∧ (255#8 : Byte) ≠ 0#8 := by decide

/-- TIMEOUT = 16: `tmr` = 15 expires, `tmr` = 14 does not; TIMEOUT = 0 never does. -/
theorem witness_IdleTimedStateTimesOutOrTicks :
    (inState .len 0#8 0#8 15#32).rx.fsm = .len ∧ (inState .payload 5#8 0#8 15#32).rx.fsm = .payload ∧
    (inState .endMark 0#8 0#8 15#32).rx.fsm = .endMark ∧ (inState .len 0#8 0#8 15#32).ctrl.en = true ∧
    ((RxState.len, ErrKind.lengthTimeout, 0b000010#6) ∈ [(RxState.len, ErrKind.lengthTimeout, 0b000010#6),
      (.payload, .payloadTimeout, 0b000100#6), (.endMark, .frameMismatch, 0b001000#6)]) ∧
    quiet.ctrl.timeout ≠ 0#32 ∧ quiet.ctrl.timeout.toNat ≤ (inState .len 0#8 0#8 15#32).rx.tmr.toNat + 1 ∧
    (inState .len 0#8 0#8 14#32).rx.tmr.toNat + 1 < quiet.ctrl.timeout.toNat ∧
    ({ quiet with ctrl.timeout := 0#32 }).ctrl.timeout = 0#32 := by decide

/-- The completing byte in the last cycle; another byte in the last cycle and in the one before. -/
theorem witness_PayloadByteIsStored :
    (inState .payload 5#8 4#8 15#32).rx.fsm = .payload ∧ (inState .payload 5#8 4#8 15#32).ctrl.en = true ∧
    Memory.wf (inState .payload 5#8 4#8 15#32).rx.rxbuf = true ∧
    (inState .payload 5#8 4#8 15#32).rx.rxIdx.toNat + 1 = (inState .payload 5#8 4#8 15#32).rx.rxLen.toNat ∧
    (inState .payload 5#8 3#8 15#32).rx.rxIdx.toNat + 1 ≠ (inState .payload 5#8 3#8 15#32).rx.rxLen.toNat ∧
    quiet.ctrl.timeout ≠ 0#32 ∧ quiet.ctrl.timeout.toNat ≤ (inState .payload 5#8 3#8 15#32).rx.tmr.toNat + 1 ∧
    (inState .payload 5#8 3#8 14#32).rx.tmr.toNat + 1 < quiet.ctrl.timeout.toNat := by decide

theorem witness_WrongEndMarkerIsAMismatch :
    beforeCommit.rx.fsm = .endMark ∧ beforeCommit.ctrl.en = true ∧ (0xAA#8 : Byte) ≠ 0xBB#8 := by decide

theorem witness_EndMarkerCommitsTheFrame :
    beforeCommit.rx.fsm = .endMark ∧ beforeCommit.ctrl.en = true ∧ Memory.wf beforeCommit.frame.framebuf = true := by
  decide

theorem witness_LongPayloadIsDecoded :
    beforeCommit.rx.fsm = .endMark ∧ beforeCommit.ctrl.en = true ∧ 12 ≤ beforeCommit.rx.rxLen.toNat ∧
    ∀ i, (fun n => (beforeCommit.rx.rxbuf.read n).toNat) i = (beforeCommit.rx.rxbuf.read i).toNat :=
  ⟨by decide, by decide, by decide, fun _ => rfl⟩

theorem witness_ShortPayloadIsRejected :
    (inState .endMark 11#8 11#8 0#32).rx.fsm = .endMark ∧ (inState .endMark 11#8 11#8 0#32).ctrl.en = true ∧
    (inState .endMark 11#8 11#8 0#32).rx.rxLen.toNat < 12 := by decide

/-- Slots 0 and 23. -/
theorem witness_ButtonSlotsFollowTheTable :
    beforeCommit.rx.fsm = .endMark ∧ beforeCommit.ctrl.en = true ∧ 12 ≤ beforeCommit.rx.rxLen.toNat ∧ 0 < 24 ∧ 23 < 24 := by
  decide

/-- Two payloads that differ before byte 3 and from byte 12 on. -/
theorem witness_DecodingDependsOnlyOnItsBytes :
    let s := beforeCommit
    let s' : State := { beforeCommit with rx.rxLen := 13#8, rx.rxbuf := (0, 9#8) :: p2Payload ++ [(12, 0x99#8)] }
    s.rx.fsm = .endMark ∧ s.ctrl.en = true ∧ 12 ≤ s.rx.rxLen.toNat ∧ s'.rx.fsm = .endMark ∧ s'.ctrl.en = true ∧
    12 ≤ s'.rx.rxLen.toNat ∧ s.rx.rxbuf ≠ s'.rx.rxbuf ∧
    ∀ i, i < 12 → 3 ≤ i → s.rx.rxbuf.read i = s'.rx.rxbuf.read i := by decide

/-- Every operation, and a state in which each guarded clause applies. -/
theorem witness_StreamOperationsFrame :
    (Instr.rxFault = .rxFault ∨ Instr.rxFault = .rxByte 1#8 ∨ Instr.rxFault = .rxIdle) ∧
    (Instr.rxByte 1#8 = .rxFault ∨ Instr.rxByte 1#8 = .rxByte 1#8 ∨ Instr.rxByte 1#8 = .rxIdle) ∧
    ¬ (beforeCommit.rx.fsm = .endMark ∧ beforeCommit.ctrl.en = true ∧ Instr.rxByte 1#8 = .rxByte 0xBB#8) ∧
    ¬ (beforeCommit.rx.fsm = .payload ∧ beforeCommit.ctrl.en = true ∧ Instr.rxByte 1#8 = .rxByte 1#8) := by decide

theorem witness_PayloadReadAnswersItsLanes :
    0 < 4 ∧ 3 < 4 ∧ 4 * (2#6).toNat + 3 < afterCommit.frame.frameLen.toNat ∧
    ¬ 4 * (3#6).toNat + 0 < afterCommit.frame.frameLen.toNat := by decide

theorem witness_ReadOnlyWritesAreIgnored :
    Instr.wrFps 1#32 ∈ [Instr.wrStatus 1#32, .wrFrameLen 1#32, .wrButtons 1#32, .wrLstick 1#32, .wrRstick 1#32, .wrFps 1#32,
      .wrElapsed 1#32, .wrPayload 0#6 1#32, .wrRsvd 0x00B#10 1#32] := by decide

theorem witness_ControlWriteSetsEnable :
    (0xFFFFFFFF#32).toNat % 2 = 1 ∧ (0xFFFFFFFE#32).toNat % 2 = 0 ∧ quiet.rx.fsm ≠ .halt ∧ halted.rx.fsm = .halt := by
  decide

/-- A cycle of each kind the statements about one step name, a write, a read and a reset: for ACycleRaisesAtMostOneEvent,
EventSetWinsOverClear, BusReadSeesTheStartOfTheCycle, ReadsHaveNoSideEffect, InterruptIsTheEnabledPendingEvents,
OutputPortsMirrorTheStartOfTheCycle and OnlyResetLeavesHalt. -/
theorem witness_step :
    (present beforeCommit 0x1BB#10 0x3008#14 1#32).inputs = ⟨0#1, 0x1BB#10, 0x3008#14, 1#32⟩ :: [] ∧
    0x3008#14 &&& 0x3FFC#14 = 0x3008#14 ∧ (decodeBus 0x3008#14 1#32).isRead = false ∧
    (present halted 0x1AA#10 0x2004#14 0#32).inputs = ⟨0#1, 0x1AA#10, 0x2004#14, 0#32⟩ :: [] ∧ halted.rx.fsm = .halt ∧
    0x2004#14 &&& 0x3FFC#14 ≠ 0x3008#14 ∧ (decodeBus 0x2004#14 0#32).isRead = true ∧
    ({ quiet with inputs := [⟨1#1, 0#10, 0#14, 0#32⟩] }).inputs = ⟨1#1, 0#10, 0#14, 0#32⟩ :: [] := by decide

/-- The four writes of `HostWritesActAfterTheCycle`, enabled and disabled, in HALT and outside it. -/
theorem witness_HostWritesActAfterTheCycle :
    decodeBus 0x3010#14 3#32 = .wrTimeout 3#32 ∧ decodeBus 0x300C#14 3#32 = .wrIrqEn 3#32 ∧
    decodeBus 0x3000#14 3#32 = .wrCtrl 3#32 ∧ (3#32).toNat % 2 = 1 ∧ decodeBus 0x3000#14 2#32 = .wrCtrl 2#32 ∧
    (2#32).toNat % 2 = 0 ∧
    (nextOf (step (present halted 0x100#10 0#14 0#32))).map (·.rx.fsm) = some .halt ∧
    (nextOf (step (present quiet 0x100#10 0#14 0#32))).map (·.rx.fsm) = some .hunt := by decide

/-- A cycle that raises each of the four errors of `NoPartialFrameSurvivesAnError`. -/
theorem witness_NoPartialFrameSurvivesAnError :
    (nextOf (step (present (inState .len 0#8 0#8 15#32) 0#10 0#14 0#32))).map (·.out.ev) = some 0b000010#6 ∧
    (nextOf (step (present (inState .payload 5#8 0#8 15#32) 0#10 0#14 0#32))).map (·.out.ev) = some 0b000100#6 ∧
    (nextOf (step (present beforeCommit 0x1AA#10 0#14 0#32))).map (·.out.ev) = some 0b001000#6 ∧
    (nextOf (step (present beforeCommit 0x200#10 0#14 0#32))).map (·.out.ev) = some 0b100000#6 := by decide

/-- `Commits` and its negation, for FrameChangesOnlyAtACommit and the tracker's statements. -/
theorem witness_commits :
    Commits beforeCommit ⟨0#1, 0x1BB#10, 0#14, 0#32⟩ ∧ ¬ Commits beforeCommit ⟨0#1, 0x1BA#10, 0#14, 0#32⟩ ∧
    ¬ Commits quiet ⟨0#1, 0x1BB#10, 0#14, 0#32⟩ :=
  ⟨⟨by decide, by decide, by decide, by decide⟩, fun h => absurd h.2.2.2 (by decide), fun h => absurd h.2.1 (by decide)⟩

/-- No write to the three configuration registers. -/
theorem witness_ConfigurationIsWrittenOnlyByTheHost :
    (∀ x, decodeBus 0x3008#14 1#32 ≠ .wrCtrl x) ∧ (∀ x, decodeBus 0x3008#14 1#32 ≠ .wrTimeout x) ∧
    (∀ x, decodeBus 0x3008#14 1#32 ≠ .wrIrqEn x) := by
  have h : decodeBus 0x3008#14 1#32 = .wrEvents 1#32 := by decide
  rw [h]
  exact ⟨nofun, nofun, nofun⟩

/-- The last tick of a second and any other; a window at age 8 and at age 7. -/
theorem witness_tracker :
    ({ quiet with trk.presc := 7#32 }).trk.presc.toNat + 1 = quiet.params.ticksPerSec ∧
    ({ quiet with trk.presc := 6#32 }).trk.presc.toNat + 1 ≠ quiet.params.ticksPerSec ∧
    quiet.params.ticksPerSec ≤ ({ quiet with trk.winAge := 8#32 }).trk.winAge.toNat ∧
    ({ quiet with trk.winAge := 7#32 }).trk.winAge.toNat < quiet.params.ticksPerSec := by decide

theorem witness_StepKeepsUptimeOfCycle :
    UptimeOfCycle { quiet with trk.presc := 7#32, trk.elapsed := 1#32, cycle := 15 } ∧
    (nextOf (step (present quiet 0#10 0#14 0#32))).isSome = true :=
  ⟨⟨by decide, by decide⟩, by decide⟩

/-- W3 with idle cycles before, between and after the bytes; an empty payload (W4); a payload of 255 bytes. -/
theorem witness_AFrameOnTheWireCommits :
    let noise : List Byte := [0x00#8, 0xBB#8]
    let l : List (Option Byte) := [none, some 0x00#8, some 0xBB#8, some 0xAA#8, none, some 0x02#8, some 0x01#8, none,
      some 0x02#8, none, some 0xBB#8, none]
    let s : State := { quiet with ctrl.timeout := 0#32, inputs := l.map traceCycle ++ [] }
    Inv s ∧ s.rx.fsm = .hunt ∧ s.ctrl.en = true ∧ s.ctrl.timeout = 0#32 ∧ (∀ b ∈ noise, b ≠ 0xAA#8) ∧
    ([0x01#8, 0x02#8] : List Byte).length ≤ 255 ∧ l.reduceOption = noise ++ frameBytes [0x01#8, 0x02#8] ∧
    s.inputs = l.map traceCycle ++ [] ∧
    ([some 0xAA#8, some 0x00#8, some 0xBB#8] : List (Option Byte)).reduceOption = [] ++ frameBytes [] ∧
    (List.replicate 255 (0xAA#8 : Byte)).length ≤ 255 := by
  refine ⟨?_, by decide, by decide, by decide, by decide, by decide, by decide, rfl, by decide,
    le_of_eq List.length_replicate⟩
  constructor <;> decide

/-- TIMEOUT = 1 and TIMEOUT = 2. -/
theorem witness_AnIdleTimedStateExpiresInItsLastCycle :
    let s : State := { inState .endMark 0#8 0#8 0#32 with
      ctrl.timeout := 1#32, inputs := List.replicate 1 idleCycle ++ [] }
    let s' : State := { inState .payload 5#8 0#8 0#32 with
      ctrl.timeout := 2#32, inputs := List.replicate 2 idleCycle ++ [] }
    (RxState.endMark, ErrKind.frameMismatch, 3) ∈ [(RxState.len, ErrKind.lengthTimeout, 1),
      (.payload, .payloadTimeout, 2), (.endMark, .frameMismatch, 3)] ∧
    s.rx.fsm = .endMark ∧ s.rx.tmr = 0#32 ∧ s.ctrl.en = true ∧ s.ctrl.timeout ≠ 0#32 ∧
    s.inputs = List.replicate s.ctrl.timeout.toNat idleCycle ++ [] ∧ 0 < s.ctrl.timeout.toNat ∧
    s'.rx.fsm = .payload ∧ s'.rx.tmr = 0#32 ∧ s'.ctrl.en = true ∧
    s'.inputs = List.replicate s'.ctrl.timeout.toNat idleCycle ++ [] ∧ 1 < s'.ctrl.timeout.toNat := by decide

/-- TIMEOUT = 2, a payload of 3 bytes, an idle cycle with WR.CTRL of 1 and a byte. -/
theorem witness_APayloadLongerThanTheTimeoutFails :
    let l : List CycleIn := [{ idleCycle with bus := 0x3000#14, wdata := 1#32 }, byteCycle 5#8]
    let s : State := { inState .payload 3#8 0#8 0#32 with ctrl.timeout := 2#32, inputs := l ++ [] }
    s.rx.fsm = .payload ∧ s.rx.rxIdx = 0#8 ∧ s.rx.tmr = 0#32 ∧ s.ctrl.en = true ∧ s.ctrl.timeout ≠ 0#32 ∧
    s.ctrl.timeout.toNat < s.rx.rxLen.toNat ∧ l.length = s.ctrl.timeout.toNat ∧ s.inputs = l ++ [] ∧
    ∀ v ∈ l, v.ctl = 0#1 ∧ decodeStream v.stream ≠ .rxFault ∧
      (∀ x, decodeBus v.bus v.wdata = .wrCtrl x → x.toNat % 2 = 1) ∧
      (∀ x, decodeBus v.bus v.wdata ≠ .wrTimeout x) := by
  refine ⟨by decide, by decide, by decide, by decide, by decide, by decide, by decide, rfl, ?_⟩
  have h : decodeBus 0x0000#14 0#32 = .busNop := by decide
  have h' : decodeBus 0x3000#14 1#32 = .wrCtrl 1#32 := by decide
  intro v hv
  simp only [List.mem_cons, List.not_mem_nil, or_false] at hv
  rcases hv with rfl | rfl
  · refine ⟨by decide, by decide, fun x hx => ?_, fun x => ?_⟩
    · cases h'.symm.trans hx
      rfl
    · simp [h']
  · refine ⟨by decide, by decide, fun x => ?_, fun x => ?_⟩ <;> simp [byteCycle, h]

/-- WR.EVENTS, then a read and an idle cycle. -/
theorem witness_TornReadProtocolSeesOneFrame :
    let v : CycleIn := ⟨0#1, 0#10, 0x3008#14, 1#32⟩
    let l : List CycleIn := [⟨0#1, 0#10, 0x2018#14, 0#32⟩, idleCycle]
    let s : State := { afterCommit with inputs := v :: (l ++ []) }
    s.inputs = v :: (l ++ []) ∧ v.ctl = 0#1 ∧ (∃ x, decodeBus v.bus v.wdata = .wrEvents x) ∧
    ∀ w ∈ l, w.ctl = 0#1 ∧ ∀ x, decodeBus w.bus w.wdata ≠ .wrEvents x := by
  refine ⟨rfl, by decide, ⟨1#32, by decide⟩, ?_⟩
  have h : decodeBus 0x2018#14 0#32 = .rdButtons := by decide
  have h' : decodeBus 0x0000#14 0#32 = .busNop := by decide
  intro w hw
  simp only [List.mem_cons, List.not_mem_nil, or_false] at hw
  rcases hw with rfl | rfl
  · exact ⟨by decide, fun x => by simp [h]⟩
  · exact ⟨by decide, fun x => by simp [idleCycle, h']⟩

/-- Two states of PAYLOAD that differ at RXBUF[1] and at FRAMEBUF[12]. -/
theorem witness_UnspecifiedBufferBytesAreUnobservable :
    let s : State := { afterCommit with rx := { (inState .payload 5#8 1#8 1#32).rx with rxbuf := [(0, 7#8), (1, 9#8)] } }
    let s' : State := { s with rx.rxbuf := [(0, 7#8)], frame.framebuf := p2Payload ++ [(12, 0x99#8)] }
    Inv s ∧ Inv s' ∧ SameButStaleBytes s s' ∧ s ≠ s' := by
  refine ⟨?_, ?_, ⟨by decide, by decide, by decide⟩, by decide⟩ <;> constructor <;> decide

end Sys2Proof.Tests
end

/-! PROOFS of the family 00_scope.md: a host access that does not clear events acts on the finished cycle. -/

namespace Sys2Proof.Machine

/-- The cycle that presents the STREAM operation `i` and no host access (00_scope.md R9, 43_host_bus.md R208), from a
state whose input vector has been taken. -/
def cycleWithoutAccess (i : Instr) (s : State) : State :=
  (endCycle (ratePhase (effect i (beginCycle s)))).respond 0#32

/-- WDATA[0], as a number. -/
theorem getElem_zero_eq_decide (x : Word) : x[0] = decide (x.toNat % 2 = 1) := Nat.testBit_zero x.toNat

/-- WR.CTRL with WDATA[0] = 1 enables the receiver and does nothing else (43_host_bus.md R183). -/
theorem writeEffect_wrCtrl_enable {x : Word} (hx : x.toNat % 2 = 1) (s : State) :
    writeEffect (.wrCtrl x) s = { s with ctrl.en := true } := by
  simp [writeEffect, getElem_zero_eq_decide, hx]

/-- WR.CTRL with WDATA[0] = 0 in HALT disables the receiver and does nothing else (R183). -/
theorem writeEffect_wrCtrl_disable_halt {x : Word} (hx : x.toNat % 2 = 0) {s : State} (hs : s.rx.fsm = .halt) :
    writeEffect (.wrCtrl x) s = { s with ctrl.en := false } := by
  simp [writeEffect, getElem_zero_eq_decide, hx, hs]

/-- WR.CTRL with WDATA[0] = 0 outside HALT disables the receiver and discards the attempt (R183). -/
theorem writeEffect_wrCtrl_disable {x : Word} (hx : x.toNat % 2 = 0) {s : State} (hs : s.rx.fsm ≠ .halt) :
    writeEffect (.wrCtrl x) s = ({ s with ctrl.en := false } : State).endAttempt .hunt := by
  simp [writeEffect, getElem_zero_eq_decide, hx, hs]

/-- Composing EVENTS and answering the host commute with every write effect but WR.EVENTS, which must come before the
composition (R187). -/
theorem respond_endCycle_writeEffect {j : Instr} (hj : ∀ x, j ≠ .wrEvents x) (s : State) (r : Word) :
    (endCycle (writeEffect j s)).respond r = writeEffect j ((endCycle s).respond r) := by
  cases j
  case wrCtrl x =>
    rcases Nat.mod_two_eq_zero_or_one x.toNat with hx | hx
    · by_cases hs : s.rx.fsm = .halt
      · rw [writeEffect_wrCtrl_disable_halt hx hs, writeEffect_wrCtrl_disable_halt hx (s := (endCycle s).respond r) hs]
        rfl
      · rw [writeEffect_wrCtrl_disable hx hs, writeEffect_wrCtrl_disable hx (s := (endCycle s).respond r) hs]
        rfl
    · rw [writeEffect_wrCtrl_enable hx, writeEffect_wrCtrl_enable hx]
      rfl
  case wrEvents x => exact absurd rfl (hj x)
  all_goals rfl

/-- A cycle with a write other than WR.EVENTS is the cycle without the access, followed by the write
(60_exceptions.md R240 (8)). -/
theorem step_write {s : State} {v : CycleIn} {rest : List CycleIn} {j : Instr} (h : s.inputs = v :: rest)
    (hc : v.ctl = 0#1) (hj : decodeBus v.bus v.wdata = j) (hr : j.isRead = false) (he : ∀ x, j ≠ .wrEvents x) :
    step s = .next (writeEffect j (cycleWithoutAccess (decodeStream v.stream) { s with inputs := rest })) := by
  have hb : isBus j = true := hj ▸ decodeBus_isBus v.bus v.wdata
  rw [step_normal h hc, hj, busAnswer_other hb hr, respond_endCycle_writeEffect he, cycleWithoutAccess]

/-- The BUS word 0 selects BUS.NOP, and a cycle with BUS.NOP is the cycle without an access. -/
theorem step_without_access (s : State) {v : CycleIn} (rest : List CycleIn) (hc : v.ctl = 0#1) :
    step { s with inputs := { v with bus := 0x0000#14 } :: rest } =
      .next (cycleWithoutAccess (decodeStream v.stream) { s with inputs := rest }) := by
  have hnop : decodeBus 0x0000#14 v.wdata = .busNop := rfl
  exact step_write (v := { v with bus := 0x0000#14 }) rfl hc hnop rfl nofun

/-- Settles O40: each configuration write is its write effect on the cycle without the access. -/
theorem hostWritesActAfterTheCycle : Obligations.HostWritesActAfterTheCycle := by
  intro s v rest h hc
  refine ⟨_, step_without_access s rest hc, ?wrTimeout, ?wrIrqEn, ?enable, ?disableHalt, ?disable⟩
  case wrTimeout =>
    intro x hj
    exact step_write h hc hj rfl nofun
  case wrIrqEn =>
    intro x hj
    exact ⟨x.extractLsb' 0 6, BitVec.extractLsb'_toNat 0 6 x, step_write h hc hj rfl nofun⟩
  case enable =>
    intro x hj hx
    rw [step_write h hc hj rfl nofun, writeEffect_wrCtrl_enable hx]
  case disableHalt =>
    intro x hj hx ht
    rw [step_write h hc hj rfl nofun, writeEffect_wrCtrl_disable_halt hx ht]
  case disable =>
    intro x hj hx ht
    rw [step_write h hc hj rfl nofun, writeEffect_wrCtrl_disable hx ht]
    rfl

end Sys2Proof.Machine

/-! PROOFS of the family 10_state.md: the invariant of the machine, the buffer bytes nobody sees, the output ports and the
host's configuration. -/

namespace Sys2Proof.Machine

/-! ## What a stream phase runs, and what a cycle leads to -/

/-- The operations of 40_frame_receiver.md that a stream phase can run in `s`, with the receiver state each needs
(R100 to R114). -/
inductive StreamAction (s : State) : (State → State) → Prop
  /-- HALT, a disabled receiver, noise and idle cycles in HUNT (R103, R104, R106, R107). -/
  | keep : StreamAction s id
  | fault : s.rx.fsm ≠ .halt → StreamAction s (raise .fatal)
  | start : s.rx.fsm = .hunt → s.ctrl.en = true → StreamAction s startAttempt
  | length (d : Byte) : s.rx.fsm = .len → s.ctrl.en = true → StreamAction s (takeLength d)
  | payload (d : Byte) : s.rx.fsm = .payload → s.ctrl.en = true → StreamAction s (takePayload d)
  | accept : s.rx.fsm = .endMark → s.ctrl.en = true → StreamAction s acceptFrame
  | mismatch : s.rx.fsm = .endMark → s.ctrl.en = true → StreamAction s (raise .frameMismatch)
  | wait (k : ErrKind) : k ≠ .payloadTooShort ∧ k ≠ .fatal → s.rx.fsm ≠ .hunt → s.rx.fsm ≠ .halt →
      s.ctrl.en = true → StreamAction s (waitTimed k)

/-- `p` is what the operation `i` does in `s` and in every state that agrees with `s` in `fsm` and CTRL.EN. -/
def ActsAs (i : Instr) (s : State) (p : State → State) : Prop :=
  ∀ t : State, t.rx.fsm = s.rx.fsm → t.ctrl.en = s.ctrl.en → effect i t = p t

theorem ActsAs.effect_eq {i : Instr} {s : State} {p : State → State} (h : ActsAs i s p) : effect i s = p s := h s rfl rfl

theorem effect_rxFault (s : State) : effect .rxFault s = rxFaultPhase s := rfl
theorem effect_rxByte (d : Byte) (s : State) : effect (.rxByte d) s = rxBytePhase d s := rfl
theorem effect_rxIdle (s : State) : effect .rxIdle s = rxIdlePhase s := rfl

theorem rxFault_action (s : State) : ∃ p, StreamAction s p ∧ ActsAs .rxFault s p := by
  by_cases hs : s.rx.fsm = .halt
  · exact ⟨_, .keep, fun t hf _ => by simp [effect_rxFault, rxFaultPhase, hf, hs]⟩
  · exact ⟨_, .fault hs, fun t hf _ => by simp [effect_rxFault, rxFaultPhase, hf, hs]⟩

theorem rxByte_action (d : Byte) (s : State) : ∃ p, StreamAction s p ∧ ActsAs (.rxByte d) s p := by
  cases hen : s.ctrl.en
  case false => exact ⟨_, .keep, fun t _ he => by simp [effect_rxByte, rxBytePhase, he, hen]⟩
  case true =>
    cases hs : s.rx.fsm
    case hunt =>
      by_cases hd : d = sof
      · exact ⟨_, .start hs hen, fun t hf he => by simp [effect_rxByte, rxBytePhase, hf, he, hs, hen, hd]⟩
      · exact ⟨_, .keep, fun t hf he => by simp [effect_rxByte, rxBytePhase, hf, hs, hd]⟩
    case len => exact ⟨_, .length d hs hen, fun t hf he => by simp [effect_rxByte, rxBytePhase, hf, he, hs, hen]⟩
    case payload => exact ⟨_, .payload d hs hen, fun t hf he => by simp [effect_rxByte, rxBytePhase, hf, he, hs, hen]⟩
    case endMark =>
      by_cases hd : d = eof
      · exact ⟨_, .accept hs hen, fun t hf he => by simp [effect_rxByte, rxBytePhase, hf, he, hs, hen, hd]⟩
      · exact ⟨_, .mismatch hs hen, fun t hf he => by simp [effect_rxByte, rxBytePhase, hf, he, hs, hen, hd]⟩
    case halt => exact ⟨_, .keep, fun t hf _ => by simp [effect_rxByte, rxBytePhase, hf, hs]⟩

theorem rxIdle_action (s : State) : ∃ p, StreamAction s p ∧ ActsAs .rxIdle s p := by
  cases hen : s.ctrl.en
  case false => exact ⟨_, .keep, fun t _ he => by simp [effect_rxIdle, rxIdlePhase, he, hen]⟩
  case true =>
    cases hs : s.rx.fsm
    case hunt => exact ⟨_, .keep, fun t hf _ => by simp [effect_rxIdle, rxIdlePhase, hf, hs]⟩
    case len =>
      exact ⟨_, .wait .lengthTimeout (by decide) (by simp [hs]) (by simp [hs]) hen, fun t hf he => by
        simp [effect_rxIdle, rxIdlePhase, hf, he, hs, hen]⟩
    case payload =>
      exact ⟨_, .wait .payloadTimeout (by decide) (by simp [hs]) (by simp [hs]) hen, fun t hf he => by
        simp [effect_rxIdle, rxIdlePhase, hf, he, hs, hen]⟩
    case endMark =>
      exact ⟨_, .wait .frameMismatch (by decide) (by simp [hs]) (by simp [hs]) hen, fun t hf he => by
        simp [effect_rxIdle, rxIdlePhase, hf, he, hs, hen]⟩
    case halt => exact ⟨_, .keep, fun t hf _ => by simp [effect_rxIdle, rxIdlePhase, hf, hs]⟩

/-- Every stream operation runs one of the stream actions. -/
theorem stream_action {i : Instr} (h : isStream i = true) (s : State) : ∃ p, StreamAction s p ∧ ActsAs i s p := by
  cases i
  case rxFault => exact rxFault_action s
  case rxByte d => exact rxByte_action d s
  case rxIdle => exact rxIdle_action s
  all_goals cases h

/-- The state a normal cycle with the STREAM operation `i` and the BUS operation `j` leads to (00_scope.md R9). -/
def afterCycle (i j : Instr) (s : State) : State :=
  (endCycle (writeEffect j (ratePhase (effect i (beginCycle s))))).respond (busAnswer j s)

/-- An input vector, listed or free, either resets every state or runs the same two operations in every state. -/
theorem runCycle_cases (v : CycleIn) :
    (∀ s, runCycle v s = .next (State.resetWith s.params s.inputs s.draws)) ∨
    ∃ i j, isStream i = true ∧ isBus j = true ∧ ∀ s, runCycle v s = .next (afterCycle i j s) := by
  rcases BitVec.eq_zero_or_eq_one v.ctl with hc | hc
  · have hi := decodeStream_isStream v.stream
    have hj := decodeBus_isBus v.bus v.wdata
    exact .inr ⟨_, _, hi, hj, fun s => (runCycle_normal hc s).trans (normalCycle_eq hi hj s)⟩
  · exact .inl (runCycle_reset hc)

/-! ## The invariant -/

theorem Params.ticksPerSec_pos (p : Params) : 0 < p.ticksPerSec := Nat.succ_pos _

theorem resetWith_inv (p : Params) (l : List CycleIn) (n : Nat) : Inv (State.resetWith p l n) where
  rxbufForm := rfl
  framebufForm := rfl
  rxbufTop := rfl
  idle _ := ⟨rfl, rfl, rfl⟩
  awaitingLength := nofun
  receiving := nofun
  complete := nofun
  disabled := nofun
  halted := iff_of_false nofun nofun
  uncommitted _ := ⟨rfl, rfl⟩
  decoded := nofun
  prescBelow := p.ticksPerSec_pos
  winAgeBound := Nat.zero_le _

/-- Outside HALT the last error is not the fatal one. -/
theorem Inv.not_fatal {s : State} (h : Inv s) (hs : s.rx.fsm ≠ .halt) : s.log.lastErr ≠ some .fatal :=
  mt h.halted.mpr hs

/-- Ending the attempt in HUNT, from any state but HALT. -/
theorem endAttempt_inv {s : State} (h : Inv s) (hs : s.rx.fsm ≠ .halt) : Inv (s.endAttempt .hunt) :=
  { h with
    idle := fun _ => ⟨rfl, rfl, rfl⟩
    awaitingLength := nofun
    receiving := nofun
    complete := nofun
    disabled := fun _ => .inl rfl
    halted := iff_of_false nofun (h.not_fatal hs) }

/-- Recording an error other than the fatal one, from any state but HALT. -/
theorem recordError_inv {s : State} (h : Inv s) (hs : s.rx.fsm ≠ .halt) {k : ErrKind} (hk : k ≠ .fatal) :
    Inv ((s.addEvent k.eventBit).setLastErr k) :=
  { h with halted := iff_of_false hs (by simpa using hk) }

theorem raise_inv {s : State} (h : Inv s) (hs : s.rx.fsm ≠ .halt) (k : ErrKind) : Inv (raise k s) := by
  cases k
  case fatal =>
    exact { h with
      idle := fun _ => ⟨rfl, rfl, rfl⟩
      awaitingLength := nofun
      receiving := nofun
      complete := nofun
      disabled := fun _ => .inr rfl
      halted := iff_of_true rfl rfl }
  case payloadTooShort =>
    exact { recordError_inv h hs (k := .payloadTooShort) nofun with
      uncommitted := fun hv => ⟨(h.uncommitted hv).1, rfl⟩
      decoded := nofun }
  all_goals exact endAttempt_inv (recordError_inv h hs nofun) hs

/-- An enabled receiver outside HALT may go on to any receiver state `r` in which an attempt is in progress. -/
theorem attempt_inv {s : State} (h : Inv s) (hs : s.rx.fsm ≠ .halt) (hen : s.ctrl.en = true) {r : Rx}
    (hunt : r.fsm ≠ .hunt) (halt : r.fsm ≠ .halt)
    (form : Memory.wf r.rxbuf = true) (top : r.rxbuf.read 255 = unlistedByte)
    (awaitingLength : r.fsm = .len → r.rxLen = 0#8 ∧ r.rxIdx = 0#8)
    (receiving : r.fsm = .payload → r.rxIdx.toNat < r.rxLen.toNat ∧ r.rxIdx.toNat ≤ r.tmr.toNat)
    (complete : r.fsm = .endMark → r.rxIdx = r.rxLen) : Inv { s with rx := r } :=
  { h with
    rxbufForm := form
    rxbufTop := top
    idle := fun hr => (hr.elim hunt halt).elim
    awaitingLength := awaitingLength
    receiving := receiving
    complete := complete
    disabled := fun he => absurd (he.symm.trans hen) nofun
    halted := iff_of_false halt (h.not_fatal hs) }

theorem startAttempt_inv {s : State} (h : Inv s) (hs : s.rx.fsm = .hunt) (hen : s.ctrl.en = true) :
    Inv (startAttempt s) :=
  attempt_inv h (by simp [hs]) hen nofun nofun h.rxbufForm h.rxbufTop (fun _ => (h.idle (.inl hs)).2) nofun nofun

theorem takeLength_inv {s : State} (h : Inv s) (hs : s.rx.fsm = .len) (hen : s.ctrl.en = true) (d : Byte) :
    Inv (takeLength d s) := by
  have hs' : s.rx.fsm ≠ .halt := by simp [hs]
  unfold takeLength
  by_cases hd : d = 0#8
  · rw [if_pos hd]
    exact attempt_inv h hs' hen nofun nofun h.rxbufForm h.rxbufTop nofun nofun (fun _ => hd.symm)
  · rw [if_neg hd]
    have hpos : 0 < d.toNat := Nat.pos_of_ne_zero (fun h0 => hd (BitVec.eq_of_toNat_eq h0))
    exact attempt_inv h hs' hen nofun nofun h.rxbufForm h.rxbufTop nofun (fun _ => ⟨hpos, Nat.zero_le _⟩) nofun

/-- An increment of the saturating timer counts one more byte at most (R118). -/
theorem byte_le_sat32_succ {i : Byte} {n : Nat} (h : i.toNat ≤ n + 1) : i.toNat ≤ (sat32 (n + 1)).toNat := by
  rw [sat32_toNat]
  omega

theorem tickTimer_inv {s : State} (h : Inv s) (hs : s.rx.fsm ≠ .hunt) (hs' : s.rx.fsm ≠ .halt)
    (hen : s.ctrl.en = true) : Inv (tickTimer s) :=
  attempt_inv h hs' hen hs hs' h.rxbufForm h.rxbufTop h.awaitingLength
    (fun hp => ⟨(h.receiving hp).1, byte_le_sat32_succ (Nat.le_succ_of_le (h.receiving hp).2)⟩) h.complete

theorem waitTimed_inv {s : State} (h : Inv s) (hs : s.rx.fsm ≠ .hunt) (hs' : s.rx.fsm ≠ .halt)
    (hen : s.ctrl.en = true) (k : ErrKind) : Inv (waitTimed k s) := by
  unfold waitTimed
  split
  · exact raise_inv h hs' k
  · exact tickTimer_inv h hs hs' hen

/-- A payload byte goes into a canonical RXBUF below entry 255, which stays unwritten (10_state.md R26). -/
theorem storeByte_inv {s : State} (h : Inv s) (hs : s.rx.fsm = .payload) (d : Byte) :
    Inv { s with rx.rxbuf := s.rx.rxbuf.write s.rx.rxIdx.toNat d } := by
  have hidx : s.rx.rxIdx.toNat < 255 := by
    have := (h.receiving hs).1
    omega
  exact { h with
    rxbufForm := Memory.wf_write h.rxbufForm (Nat.lt_succ_of_lt hidx) d
    rxbufTop := (Memory.read_write_ne _ (Nat.ne_of_gt hidx) d).trans h.rxbufTop }

theorem takePayload_inv {s : State} (h : Inv s) (hs : s.rx.fsm = .payload) (hen : s.ctrl.en = true) (d : Byte) :
    Inv (takePayload d s) := by
  obtain ⟨hlen, htmr⟩ := h.receiving hs
  have hs' : s.rx.fsm ≠ .halt := by simp [hs]
  have ht := storeByte_inv h hs d
  have hnext : (s.rx.rxIdx + 1#8).toNat = s.rx.rxIdx.toNat + 1 := by bv_omega
  simp only [takePayload]
  split_ifs with hlast hexp
  · exact attempt_inv ht hs' hen nofun nofun ht.rxbufForm ht.rxbufTop nofun nofun
      (fun _ => BitVec.eq_of_toNat_eq (hnext.trans hlast))
  · exact raise_inv ht hs' .payloadTimeout
  · refine attempt_inv ht hs' hen (by simp [hs]) (by simp [hs]) ht.rxbufForm ht.rxbufTop (by simp [hs]) (fun _ => ?_)
      (by simp [hs])
    have hlen' : (s.rx.rxIdx + 1#8).toNat < s.rx.rxLen.toNat := by omega
    have htmr' : (s.rx.rxIdx + 1#8).toNat ≤ s.rx.tmr.toNat + 1 := by omega
    exact ⟨hlen', byte_le_sat32_succ htmr'⟩

/-- A field of a payload depends only on its own bytes (41_decoder.md R148). -/
theorem field24_congr {p q : Memory} {n o : Nat} (h : ∀ i, i < n → p.read i = q.read i) (ho : o + 2 < n) :
    field24 p o = field24 q o := by
  unfold field24
  rw [h o (by omega), h (o + 1) (by omega), h (o + 2) ho]

/-- The decoded fields depend only on the first 12 bytes (R148). -/
theorem decodedFields_congr {p q : Memory} {n : Nat} (h : ∀ i, i < n → p.read i = q.read i) (hn : 12 ≤ n) :
    field24 p buttonsOffset = field24 q buttonsOffset ∧ field24 p lstickOffset = field24 q lstickOffset ∧
    field24 p rstickOffset = field24 q rstickOffset :=
  ⟨field24_congr h (lt_of_lt_of_le (by decide) hn), field24_congr h (lt_of_lt_of_le (by decide) hn),
    field24_congr h (lt_of_lt_of_le (by decide) hn)⟩

theorem byte_le_bufferSize (b : Byte) : b.toNat ≤ bufferSize := b.isLt.le

/-- Commit leaves the receiver as it is; `acceptFrame` ends the attempt after it (40_frame_receiver.md R112). -/
theorem commit_rx (s : State) : (commit s).rx = s.rx := by
  obtain ⟨-, hrx, -⟩ := decodePayload_frame s.rx.rxbuf s.rx.rxLen _
  exact hrx

/-- The committed bytes are the received ones (R115). -/
theorem read_copy_received {s : State} (form : s.frame.framebuf.wf = true) {i : Nat} (hi : i < s.rx.rxLen.toNat) :
    (Memory.copy s.rx.rxLen.toNat s.rx.rxbuf s.frame.framebuf).read i = s.rx.rxbuf.read i := by
  rw [Memory.read_copy (byte_le_bufferSize _) _ form, if_pos hi]

theorem commit_inv {s : State} (h : Inv s) (hs : s.rx.fsm ≠ .halt) : Inv (commit s) := by
  have hform := Memory.wf_copy (byte_le_bufferSize s.rx.rxLen) s.rx.rxbuf h.framebufForm
  unfold commit decodePayload
  split
  next => exact { h with
    framebufForm := hform
    halted := iff_of_false hs nofun
    uncommitted := nofun
    decoded := nofun }
  next hlen =>
    have hlen : 12 ≤ s.rx.rxLen.toNat := Nat.le_of_not_lt hlen
    have hfields := decodedFields_congr (fun _ hi => (read_copy_received h.framebufForm hi).symm) hlen
    exact { h with
      framebufForm := hform
      uncommitted := nofun
      decoded := fun _ => ⟨hlen, hfields⟩ }

theorem streamAction_inv {s : State} {p : State → State} (h : Inv s) (hp : StreamAction s p) : Inv (p s) := by
  cases hp
  case keep => exact h
  case fault hs => exact raise_inv h hs .fatal
  case start hs hen => exact startAttempt_inv h hs hen
  case length d hs hen => exact takeLength_inv h hs hen d
  case payload d hs hen => exact takePayload_inv h hs hen d
  case accept hs hen =>
    have hs' : s.rx.fsm ≠ .halt := by simp [hs]
    exact endAttempt_inv (commit_inv h hs') (by rwa [commit_rx])
  case mismatch hs hen => exact raise_inv h (by simp [hs]) .frameMismatch
  case wait k hk hs hs' hen => exact waitTimed_inv h hs hs' hen k

theorem uptimeTick_presc_lt {tps : Nat} (hpos : 0 < tps) {k : Tracker} (h : k.presc.toNat < tps) :
    (uptimeTick tps k).presc.toNat < tps := by
  unfold uptimeTick
  split
  next => exact hpos
  next hne =>
    show (k.presc + 1#32).toNat < tps
    have : (k.presc + 1#32).toNat ≤ k.presc.toNat + 1 := by
      rw [BitVec.toNat_add]
      exact Nat.mod_le _ _
    omega

theorem ageWindow_winAge_le (tps : Nat) (k : Tracker) : (ageWindow tps k).winAge.toNat ≤ tps := by
  show (BitVec.ofNat 32 (min (k.winAge.toNat + 1) tps)).toNat ≤ tps
  rw [BitVec.toNat_ofNat]
  exact (Nat.mod_le _ _).trans (Nat.min_le_right _ _)

theorem frameSuccess_winAge_le {tps : Nat} (hpos : 0 < tps) (k : Tracker) : (frameSuccess tps k).winAge.toNat ≤ tps := by
  simp only [frameSuccess]
  split
  · exact hpos
  · exact ageWindow_winAge_le tps k

theorem frameSuccess_presc (tps : Nat) (k : Tracker) : (frameSuccess tps k).presc = k.presc := by
  simp only [frameSuccess]
  split <;> rfl

theorem ratePhase_inv {s : State} (h : Inv s) : Inv (ratePhase s) := by
  have hpos := s.params.ticksPerSec_pos
  have hpresc := uptimeTick_presc_lt hpos h.prescBelow
  unfold ratePhase
  split
  · exact { h with
      prescBelow := (congrArg BitVec.toNat (frameSuccess_presc _ _)).trans_lt hpresc
      winAgeBound := frameSuccess_winAge_le hpos _ }
  · exact { h with
      prescBelow := hpresc
      winAgeBound := ageWindow_winAge_le _ _ }

/-- A write that disables the receiver discards the attempt outside HALT (43_host_bus.md R183); every other write effect
is on fields the invariant does not speak of. -/
theorem writeEffect_inv {s : State} (h : Inv s) (j : Instr) : Inv (writeEffect j s) := by
  cases j
  case wrCtrl x =>
    rcases Nat.mod_two_eq_zero_or_one x.toNat with hx | hx
    · by_cases hs : s.rx.fsm = .halt
      · rw [writeEffect_wrCtrl_disable_halt hx hs]
        exact { h with disabled := fun _ => .inr hs }
      · rw [writeEffect_wrCtrl_disable hx hs]
        exact { endAttempt_inv h hs with disabled := fun _ => .inl rfl }
    · rw [writeEffect_wrCtrl_enable hx]
      exact { h with disabled := nofun }
  all_goals exact { h with }

theorem effect_inv {i : Instr} (hi : isStream i = true) {s : State} (h : Inv s) : Inv (effect i s) := by
  obtain ⟨p, hp, hact⟩ := stream_action hi s
  rw [hact.effect_eq]
  exact streamAction_inv h hp

theorem beginCycle_inv {s : State} (h : Inv s) : Inv (beginCycle s) := { h with }

theorem consumeInput_inv {s : State} (h : Inv s) : Inv (consumeInput s) := { h with }

theorem afterCycle_inv {i : Instr} (hi : isStream i = true) (j : Instr) {s : State} (h : Inv s) :
    Inv (afterCycle i j s) := by
  have hwrite := writeEffect_inv (ratePhase_inv (effect_inv hi (beginCycle_inv h))) j
  exact { hwrite with }

/-- Settles O53: a reset cycle leads to a reset state, and every phase of a normal cycle keeps the invariant. -/
theorem stepKeepsTheInvariant : Obligations.StepKeepsTheInvariant := by
  intro s t h hstep
  rcases runCycle_cases (nextInput s) with hrun | ⟨i, j, hi, -, hrun⟩
  · cases (hrun _).symm.trans hstep
    exact resetWith_inv _ _ _
  · cases (hrun _).symm.trans hstep
    exact afterCycle_inv hi j (consumeInput_inv h)

/-! ## Buffer bytes nobody sees -/

/-- `s` with the buffers' contents replaced by `m` and `f`. -/
def State.withBuffers (s : State) (m f : Memory) : State := { s with rx.rxbuf := m, frame.framebuf := f }

theorem SameButStaleBytes.exists_withBuffers {s s' : State} (h : SameButStaleBytes s s') :
    ∃ m f, s' = s.withBuffers m f := ⟨_, _, h.rest.symm⟩

theorem SameButStaleBytes.out_eq {s s' : State} (h : SameButStaleBytes s s') : s.out = s'.out :=
  congrArg (·.out) h.rest

/-- A phase that neither reads nor writes the buffers, takes no further payload byte and commits no frame keeps the
relation. -/
theorem SameButStaleBytes.map {p : State → State} (hp : ∀ s m f, p (s.withBuffers m f) = (p s).withBuffers m f)
    {s s' : State} (h : SameButStaleBytes s s') (hidx : (p s).rx.rxIdx.toNat ≤ s.rx.rxIdx.toNat)
    (hlen : (p s).frame.frameLen = s.frame.frameLen) : SameButStaleBytes (p s) (p s') := by
  have hs : p s = (p s).withBuffers s.rx.rxbuf s.frame.framebuf := hp s _ _
  have hs' : p s' = (p s).withBuffers s'.rx.rxbuf s'.frame.framebuf := by rw [← hp, ← h.rest]; rfl
  have hrxbuf : (p s).rx.rxbuf = s.rx.rxbuf := congrArg (·.rx.rxbuf) hs
  have hframebuf : (p s).frame.framebuf = s.frame.framebuf := congrArg (·.frame.framebuf) hs
  rw [hs']
  refine ⟨fun i hi => ?_, fun i hi => ?_, rfl⟩
  · rw [hrxbuf]
    exact h.rxbuf i (hi.trans_le hidx)
  · rw [hframebuf]
    exact h.framebuf i (hlen ▸ hi)

theorem raise_withBuffers (k : ErrKind) (s : State) (m f : Memory) :
    raise k (s.withBuffers m f) = (raise k s).withBuffers m f := by
  cases k <;> rfl

theorem raise_rxIdx_le (k : ErrKind) (s : State) : (raise k s).rx.rxIdx.toNat ≤ s.rx.rxIdx.toNat := by
  cases k
  case payloadTooShort => exact le_rfl
  all_goals exact Nat.zero_le _

theorem raise_same (k : ErrKind) {s s' : State} (h : SameButStaleBytes s s') :
    SameButStaleBytes (raise k s) (raise k s') :=
  h.map (raise_withBuffers k) (raise_rxIdx_le k s) (by simp)

theorem tickTimer_same {s s' : State} (h : SameButStaleBytes s s') : SameButStaleBytes (tickTimer s) (tickTimer s') :=
  h.map (fun _ _ _ => rfl) le_rfl rfl

theorem waitTimed_same (k : ErrKind) {s s' : State} (h : SameButStaleBytes s s') :
    SameButStaleBytes (waitTimed k s) (waitTimed k s') := by
  obtain ⟨m, f, rfl⟩ := h.exists_withBuffers
  have hexp : expired (s.withBuffers m f) = expired s := rfl
  unfold waitTimed
  rw [hexp]
  split
  · exact raise_same k h
  · exact tickTimer_same h

/-- PAYLOAD, byte `d`: stored at `rx_idx`, which advances (R110). -/
def storeByte (d : Byte) (s : State) : State :=
  { s with rx := { s.rx with rxbuf := s.rx.rxbuf.write s.rx.rxIdx.toNat d, rxIdx := s.rx.rxIdx + 1#8 } }

/-- The payload is complete: END is next (R110). -/
def enterEnd (s : State) : State := { s with rx := { s.rx with tmr := 0#32, fsm := .endMark } }

/-- A payload byte is stored; then the payload is complete, the timeout expires, or the timer advances (R110). -/
theorem takePayload_eq (d : Byte) (s : State) :
    takePayload d s =
      if s.rx.rxIdx.toNat + 1 = s.rx.rxLen.toNat then enterEnd (storeByte d s)
      else if expired s then raise .payloadTimeout (storeByte d s)
      else tickTimer (storeByte d s) := rfl

/-- The byte stored is no longer stale, and it is the same in both states. -/
theorem storeByte_same (d : Byte) {s s' : State} (form : s.rx.rxbuf.wf = true) (form' : s'.rx.rxbuf.wf = true)
    (h : SameButStaleBytes s s') : SameButStaleBytes (storeByte d s) (storeByte d s') := by
  obtain ⟨m, f, rfl⟩ := h.exists_withBuffers
  refine ⟨fun i hi => ?_, h.framebuf, rfl⟩
  show (s.rx.rxbuf.write s.rx.rxIdx.toNat d).read i = (m.write s.rx.rxIdx.toNat d).read i
  by_cases heq : i = s.rx.rxIdx.toNat
  · rw [heq, Memory.read_write_same form]
    exact (Memory.read_write_same form' _ d).symm
  · rw [Memory.read_write_ne _ heq, Memory.read_write_ne _ heq]
    have hnext : i < (s.rx.rxIdx + 1#8).toNat := hi
    exact h.rxbuf i (by bv_omega)

theorem takePayload_same (d : Byte) {s s' : State} (form : s.rx.rxbuf.wf = true) (form' : s'.rx.rxbuf.wf = true)
    (h : SameButStaleBytes s s') : SameButStaleBytes (takePayload d s) (takePayload d s') := by
  have hstore := storeByte_same d form form' h
  obtain ⟨m, f, rfl⟩ := h.exists_withBuffers
  have hexp : expired (s.withBuffers m f) = expired s := rfl
  have hidx : (s.withBuffers m f).rx.rxIdx = s.rx.rxIdx := rfl
  have hlen : (s.withBuffers m f).rx.rxLen = s.rx.rxLen := rfl
  rw [takePayload_eq, takePayload_eq, hexp, hidx, hlen]
  split_ifs
  · exact hstore.map (fun _ _ _ => rfl) le_rfl rfl
  · exact raise_same .payloadTimeout hstore
  · exact tickTimer_same hstore

/-- Commit copies the received payload into the committed frame (R115). -/
theorem acceptFrame_frame (s : State) :
    (acceptFrame s).frame =
      { framebuf := Memory.copy s.rx.rxLen.toNat s.rx.rxbuf s.frame.framebuf
        frameLen := s.rx.rxLen
        frameValid := true } := by
  obtain ⟨-, -, hframe, -⟩ := decodePayload_frame s.rx.rxbuf s.rx.rxLen _
  exact hframe

/-- Decode reads received bytes only: a commit does not see the stale ones. -/
theorem acceptFrame_withBuffers {s : State} {m : Memory} (f : Memory)
    (h : ∀ i, i < s.rx.rxLen.toNat → s.rx.rxbuf.read i = m.read i) :
    acceptFrame (s.withBuffers m f) = (acceptFrame s).withBuffers m (Memory.copy s.rx.rxLen.toNat m f) := by
  have hlen : (s.withBuffers m f).rx.rxLen = s.rx.rxLen := rfl
  have hbuf : (s.withBuffers m f).rx.rxbuf = m := rfl
  unfold acceptFrame commit decodePayload
  rw [hlen, hbuf]
  split
  next => rfl
  next hshort =>
    have hlong : 12 ≤ s.rx.rxLen.toNat := Nat.le_of_not_lt hshort
    obtain ⟨hbuttons, hlstick, hrstick⟩ := decodedFields_congr h hlong
    rw [← hbuttons, ← hlstick, ← hrstick]
    rfl

theorem acceptFrame_same {s s' : State} (hi : Inv s) (hi' : Inv s') (hs : s.rx.fsm = .endMark)
    (h : SameButStaleBytes s s') : SameButStaleBytes (acceptFrame s) (acceptFrame s') := by
  obtain ⟨m, f, rfl⟩ := h.exists_withBuffers
  have hread : ∀ i, i < s.rx.rxLen.toNat → s.rx.rxbuf.read i = m.read i := fun i hlt =>
    h.rxbuf i (by rwa [hi.complete hs])
  rw [acceptFrame_withBuffers f hread]
  refine ⟨nofun, fun i hlt => ?_, rfl⟩
  rw [acceptFrame_frame] at hlt ⊢
  calc (Memory.copy s.rx.rxLen.toNat s.rx.rxbuf s.frame.framebuf).read i
    _ = s.rx.rxbuf.read i := read_copy_received hi.framebufForm hlt
    _ = m.read i := hread i hlt
    _ = (Memory.copy s.rx.rxLen.toNat m f).read i := (read_copy_received (s := s.withBuffers m f) hi'.framebufForm hlt).symm

theorem streamAction_same {s s' : State} {p : State → State} (hp : StreamAction s p) (hi : Inv s) (hi' : Inv s')
    (h : SameButStaleBytes s s') : SameButStaleBytes (p s) (p s') := by
  cases hp
  case keep => exact h
  case fault => exact raise_same .fatal h
  case start => exact h.map (fun _ _ _ => rfl) le_rfl rfl
  case length d _ _ => exact h.map (fun _ _ _ => rfl) (Nat.zero_le _) rfl
  case payload d _ _ => exact takePayload_same d hi.rxbufForm hi'.rxbufForm h
  case accept hs _ => exact acceptFrame_same hi hi' hs h
  case mismatch => exact raise_same .frameMismatch h
  case wait k _ _ _ _ => exact waitTimed_same k h

theorem effect_same {i : Instr} (hi : isStream i = true) {s s' : State} (hs : Inv s) (hs' : Inv s')
    (h : SameButStaleBytes s s') : SameButStaleBytes (effect i s) (effect i s') := by
  obtain ⟨p, hp, hact⟩ := stream_action hi s
  have hsame := streamAction_same hp hs hs' h
  obtain ⟨m, f, rfl⟩ := h.exists_withBuffers
  rwa [hact.effect_eq, hact (s.withBuffers m f) rfl rfl]

theorem writeEffect_withBuffers (j : Instr) (s : State) (m f : Memory) :
    writeEffect j (s.withBuffers m f) = (writeEffect j s).withBuffers m f := by
  cases j
  case wrCtrl x =>
    have hfsm : (s.withBuffers m f).rx.fsm = s.rx.fsm := rfl
    simp only [writeEffect, hfsm]
    split <;> rfl
  all_goals rfl

theorem writeEffect_rxIdx_le (j : Instr) (s : State) : (writeEffect j s).rx.rxIdx.toNat ≤ s.rx.rxIdx.toNat := by
  cases j
  case wrCtrl x =>
    simp only [writeEffect]
    split
    · exact Nat.zero_le _
    · exact le_rfl
  all_goals exact le_rfl

theorem writeEffect_same (j : Instr) {s s' : State} (h : SameButStaleBytes s s') :
    SameButStaleBytes (writeEffect j s) (writeEffect j s') :=
  h.map (writeEffect_withBuffers j) (writeEffect_rxIdx_le j s) (by simp)

/-- A PAYLOAD lane shows a byte of the committed frame or 0, never a stale byte (43_host_bus.md R204). -/
theorem payloadLane_same {s s' : State} (h : SameButStaleBytes s s') (i : Nat) :
    payloadLane s.frame i = payloadLane s'.frame i := by
  have hlen : s.frame.frameLen = s'.frame.frameLen := congrArg (·.frame.frameLen) h.rest
  unfold payloadLane
  rw [← hlen]
  split
  next hi => exact h.framebuf i hi
  next => rfl

theorem busAnswer_same {j : Instr} (hj : isBus j = true) {s s' : State} (h : SameButStaleBytes s s') :
    busAnswer j s = busAnswer j s' := by
  cases hr : j.isRead
  case false => rw [busAnswer_other hj hr, busAnswer_other hj hr]
  case true =>
    cases j
    case rdPayload k =>
      show payloadWord s.frame k.toNat = payloadWord s'.frame k.toNat
      simp only [payloadWord, payloadLane_same h]
    case rdCtrl | rdStatus | rdEvents | rdIrqEn | rdTimeout | rdFrameLen | rdButtons | rdLstick | rdRstick | rdFps
        | rdElapsed | rdRsvd =>
      obtain ⟨m, f, rfl⟩ := h.exists_withBuffers
      rfl
    all_goals cases hr

theorem afterCycle_same {i j : Instr} (hi : isStream i = true) (hj : isBus j = true) {s s' : State} (hs : Inv s)
    (hs' : Inv s') (h : SameButStaleBytes s s') : SameButStaleBytes (afterCycle i j s) (afterCycle i j s') := by
  have hbegin : SameButStaleBytes (beginCycle s) (beginCycle s') := h.map (fun _ _ _ => rfl) le_rfl rfl
  have hstream := effect_same hi (beginCycle_inv hs) (beginCycle_inv hs') hbegin
  have hrate : SameButStaleBytes (ratePhase (effect i (beginCycle s))) (ratePhase (effect i (beginCycle s'))) :=
    hstream.map (p := ratePhase) (fun _ _ _ => rfl) le_rfl rfl
  have hwrite := writeEffect_same j hrate
  unfold afterCycle
  rw [busAnswer_same hj h]
  exact hwrite.map (p := fun t => (endCycle t).respond _) (fun _ _ _ => rfl) le_rfl rfl

/-- Settles O58: both states take the same input vector, and every phase of a cycle keeps the relation. -/
theorem unspecifiedBufferBytesAreUnobservable : Obligations.UnspecifiedBufferBytesAreUnobservable := by
  intro s s' hs hs' h
  have htaken : SameButStaleBytes (consumeInput s) (consumeInput s') := h.map (fun _ _ _ => rfl) le_rfl rfl
  obtain ⟨m, f, rfl⟩ := h.exists_withBuffers
  have hinput : nextInput (s.withBuffers m f) = nextInput s := rfl
  unfold step
  rw [hinput]
  rcases runCycle_cases (nextInput s) with hrun | ⟨i, j, hi, hj, hrun⟩
  · exact ⟨_, _, hrun _, hrun _, ⟨fun _ _ => rfl, fun _ _ => rfl, rfl⟩, rfl⟩
  · have hsame := afterCycle_same hi hj (consumeInput_inv hs) (consumeInput_inv hs') htaken
    exact ⟨_, _, hrun _, hrun _, hsame, hsame.out_eq⟩

/-! ## The output ports -/

/-- A stream phase changes no output but the cycle's event set (10_state.md R41). -/
def KeepsPorts (s t : State) : Prop := { t.out with ev := s.out.ev } = s.out

theorem raise_keepsPorts (k : ErrKind) (s : State) : KeepsPorts s (raise k s) := by
  cases k <;> rfl

theorem waitTimed_keepsPorts (k : ErrKind) (s : State) : KeepsPorts s (waitTimed k s) := by
  unfold waitTimed
  split
  · exact raise_keepsPorts k s
  · rfl

theorem takePayload_keepsPorts (d : Byte) (s : State) : KeepsPorts s (takePayload d s) := by
  rw [takePayload_eq]
  split_ifs <;> rfl

theorem acceptFrame_keepsPorts (s : State) : KeepsPorts s (acceptFrame s) := by
  unfold acceptFrame commit decodePayload
  split <;> rfl

theorem effect_keepsPorts {i : Instr} (hi : isStream i = true) (s : State) : KeepsPorts s (effect i s) := by
  obtain ⟨p, hp, hact⟩ := stream_action hi s
  rw [hact.effect_eq]
  cases hp
  case keep | start | length => rfl
  case fault => exact raise_keepsPorts .fatal s
  case payload d _ _ => exact takePayload_keepsPorts d s
  case accept => exact acceptFrame_keepsPorts s
  case mismatch => exact raise_keepsPorts .frameMismatch s
  case wait k _ _ _ _ => exact waitTimed_keepsPorts k s

/-- The outputs of a normal cycle: those of its start, with the stream phase's events and the bus answer (R41). -/
theorem afterCycle_out {i : Instr} (hi : isStream i = true) (j : Instr) (s : State) :
    (afterCycle i j s).out =
      { (beginCycle s).out with ev := (effect i (beginCycle s)).out.ev, busRdata := busAnswer j s } := by
  have hports : KeepsPorts (beginCycle s) (effect i (beginCycle s)) := effect_keepsPorts hi _
  show { (writeEffect j (ratePhase (effect i (beginCycle s)))).out with busRdata := busAnswer j s } = _
  rw [writeEffect_out, ratePhase_out, ← hports]

/-- Settles O42: the ports are taken at the start of the cycle, and the phases after it keep them. -/
theorem outputPortsMirrorTheStartOfTheCycle : Obligations.OutputPortsMirrorTheStartOfTheCycle := by
  intro s v rest h
  rcases BitVec.eq_zero_or_eq_one v.ctl with hc | hc
  · have hout := afterCycle_out (decodeStream_isStream v.stream) (decodeBus v.bus v.wdata) { s with inputs := rest }
    refine ⟨_, step_normal h hc, fun _ => ?ports, fun _ hr => ?answer, fun h1 => absurd (hc.symm.trans h1) (by decide)⟩
    case ports => exact ⟨congrArg (·.buttons) hout, congrArg (·.lstick) hout, congrArg (·.rstick) hout,
      congrArg (·.decValid) hout⟩
    case answer => exact busAnswer_other (decodeBus_isBus _ _) hr _
  · refine ⟨_, (step_listed h).trans (runCycle_reset hc _), fun h0 => ?_, fun h0 => ?_, fun _ => rfl⟩
    all_goals exact absurd (hc.symm.trans h0) (by decide)

/-! ## The host's configuration -/

theorem writeEffect_en {j : Instr} (hj : ∀ x, j ≠ .wrCtrl x) (s : State) : (writeEffect j s).ctrl.en = s.ctrl.en := by
  cases j
  case wrCtrl x => exact absurd rfl (hj x)
  all_goals rfl

theorem writeEffect_timeout {j : Instr} (hj : ∀ x, j ≠ .wrTimeout x) (s : State) :
    (writeEffect j s).ctrl.timeout = s.ctrl.timeout := by
  cases j
  case wrCtrl x =>
    simp only [writeEffect]
    split <;> rfl
  case wrTimeout x => exact absurd rfl (hj x)
  all_goals rfl

theorem writeEffect_irqEn {j : Instr} (hj : ∀ x, j ≠ .wrIrqEn x) (s : State) :
    (writeEffect j s).ctrl.irqEn = s.ctrl.irqEn := by
  cases j
  case wrCtrl x =>
    simp only [writeEffect]
    split <;> rfl
  case wrIrqEn x => exact absurd rfl (hj x)
  all_goals rfl

/-- Settles O46: of a cycle's phases only the write effect reaches the configuration, and none the parameters. -/
theorem configurationIsWrittenOnlyByTheHost : Obligations.ConfigurationIsWrittenOnlyByTheHost := by
  intro s v rest h hc
  have hstream := effect_streamKeeps (decodeStream_isStream v.stream) (beginCycle { s with inputs := rest })
  have hctrl : (effect (decodeStream v.stream) (beginCycle { s with inputs := rest })).ctrl = s.ctrl := hstream.ctrl
  refine ⟨_, step_normal h hc, fun hj => ?_, fun hj => ?_, fun hj => ?_, ?_, ?_, ?_, ?_⟩
  · simp [writeEffect_en hj, hctrl]
  · simp [writeEffect_timeout hj, hctrl]
  · simp [writeEffect_irqEn hj, hctrl]
  · simp [hstream.params]
  · simp [hstream.inputs]
  · simp [hstream.draws]
  · simp [hstream.cycle]

end Sys2Proof.Machine

/-! PROOFS of the family 20_memory.md: the ignored bits of a BUS word, and reads. -/

namespace Sys2Proof.Machine

/-! ## The three shapes of a BUS word (30_encoding.md R80) -/

theorem decodeBus_of_not_selected {w : BitVec 14} (hs : w.getLsbD 13 = false) (v : Word) : decodeBus w v = .busNop := by
  rw [decodeBus, hs]
  rfl

theorem decodeBus_of_read {w : BitVec 14} (hs : w.getLsbD 13 = true) (hw : w.getLsbD 12 = false) (v : Word) :
    decodeBus w v = decodeRead (w.extractLsb' 2 10) := by
  rw [decodeBus, hs, hw]
  rfl

theorem decodeBus_of_write {w : BitVec 14} (hs : w.getLsbD 13 = true) (hw : w.getLsbD 12 = true) (v : Word) :
    decodeBus w v = decodeWrite (w.extractLsb' 2 10) v := by
  rw [decodeBus, hs, hw]
  rfl

/-! ## Ignored bits -/

/-- The byte bits [1:0] of the address are outside the word address (20_memory.md R55). -/
theorem extractLsb'_wordAddress_mask (w : BitVec 14) : (w &&& 0x3FFC#14).extractLsb' 2 10 = w.extractLsb' 2 10 := by
  have hmask : (0x3FFC#14).extractLsb' 2 10 = BitVec.allOnes 10 := by decide
  rw [BitVec.extractLsb'_and, hmask, BitVec.and_allOnes]

/-- The decoder sees a BUS word only through the mask of its S, W and word address bits. -/
theorem decodeBus_mask (w : BitVec 14) (v : Word) : decodeBus (w &&& 0x3FFC#14) v = decodeBus w v := by
  have hs : (w &&& 0x3FFC#14).getLsbD 13 = w.getLsbD 13 := by simp
  have hw : (w &&& 0x3FFC#14).getLsbD 12 = w.getLsbD 12 := by simp
  rw [decodeBus, decodeBus, hs, hw, extractLsb'_wordAddress_mask]

/-- WDATA is no operand of a read (R80). -/
theorem decodeBus_wdata_of_isRead {w : BitVec 14} {v : Word} (h : (decodeBus w v).isRead = true) (v' : Word) :
    decodeBus w v' = decodeBus w v := by
  cases hs : w.getLsbD 13
  case false => rw [decodeBus_of_not_selected hs, decodeBus_of_not_selected hs]
  case true =>
    cases hw : w.getLsbD 12
    case false => rw [decodeBus_of_read hs hw, decodeBus_of_read hs hw]
    case true =>
      rw [decodeBus_of_write hs hw, decodeWrite_isRead] at h
      cases h

/-- Settles O5: the decoder factors through the mask of the bits it uses, and neither BUS.NOP nor a read takes WDATA. -/
theorem ignoredBusBitsSelectNothing : Obligations.IgnoredBusBitsSelectNothing := by
  refine ⟨fun w w' v h => ?address, fun w w' v v' hs hs' => ?notSelected, fun w v v' h => ?read⟩
  case address => rw [← decodeBus_mask w, h, decodeBus_mask]
  case notSelected => rw [decodeBus_of_not_selected hs, decodeBus_of_not_selected hs']
  case read => exact decodeBus_wdata_of_isRead h v'

/-! ## Reads -/

/-- A cycle with a read is the cycle without the access, but for the answer (20_memory.md R57, 43_host_bus.md R181). -/
theorem step_read {s : State} {v : CycleIn} {rest : List CycleIn} (h : s.inputs = v :: rest) (hc : v.ctl = 0#1)
    (hr : (decodeBus v.bus v.wdata).isRead = true) :
    step s = .next ((cycleWithoutAccess (decodeStream v.stream) { s with inputs := rest }).respond
      (busAnswer (decodeBus v.bus v.wdata) { s with inputs := rest })) := by
  rw [step_normal h hc, writeEffect_read hr]
  rfl

/-- Settles O39: both cycles are the cycle without an access, each with its own answer on `bus_rdata`. -/
theorem readsHaveNoSideEffect : Obligations.ReadsHaveNoSideEffect := by
  intro s v rest h hc hr
  exact ⟨_, _, step_read h hc hr, step_without_access s rest hc, rfl⟩

end Sys2Proof.Machine

/-! PROOFS of the family 30_encoding.md: the decoder and the encoder, the opcode table, the operations a step runs, and
the button slots. -/

namespace Sys2Proof.Machine

/-! ## The fields of a word (30_encoding.md R79, R80) -/

/-- The STREAM decoder on the fields F, V (together `f`) and D. -/
theorem decodeStream_append (f : BitVec 2) (d : Byte) :
    decodeStream (f ++ d) = if f.getLsbD 1 then .rxFault else if f.getLsbD 0 then .rxByte d else .rxIdle := by
  have hF : (f ++ d).getLsbD 9 = f.getLsbD 1 := BitVec.getLsbD_append
  have hV : (f ++ d).getLsbD 8 = f.getLsbD 0 := BitVec.getLsbD_append
  have hD : (f ++ d).extractLsb' 0 8 = d := BitVec.extractLsb'_append_eq_right
  rw [decodeStream, hF, hV, hD]

/-- Settles O4: the fields F, V and D as the decoder tests them. -/
theorem streamDecodingFollowsItsFields : Obligations.StreamDecodingFollowsItsFields := by
  intro d x
  have hF : (1#1 ++ x).getLsbD 1 = true := BitVec.getLsbD_append
  refine ⟨congrArg Except.ok ?_, congrArg Except.ok (decodeStream_append 0b01#2 d),
    congrArg Except.ok (decodeStream_append 0b00#2 d)⟩
  rw [decodeStream_append, hF, if_pos rfl]

/-- The word address in the fields of a BUS word. -/
theorem extractLsb'_busFields (f : BitVec 2) (a : BitVec 10) (lo : BitVec 2) :
    (f ++ (a ++ lo)).extractLsb' 2 10 = a := by
  rw [BitVec.extractLsb'_append_eq_of_add_le (by decide), BitVec.extractLsb'_append_eq_left]

/-- The BUS decoder on the fields S, W (together `f`), the word address and the ignored address bits. -/
theorem decodeBus_append (f : BitVec 2) (a : BitVec 10) (lo : BitVec 2) (v : Word) :
    decodeBus (f ++ (a ++ lo)) v =
      if f.getLsbD 1 then if f.getLsbD 0 then decodeWrite a v else decodeRead a else .busNop := by
  have hS : (f ++ (a ++ lo)).getLsbD 13 = f.getLsbD 1 := BitVec.getLsbD_append
  have hW : (f ++ (a ++ lo)).getLsbD 12 = f.getLsbD 0 := BitVec.getLsbD_append
  rw [decodeBus, hS, hW, extractLsb'_busFields]

/-! ## Word addresses (30_encoding.md R82) -/

/-- The reserved addresses are those above the registers and outside the PAYLOAD window. -/
theorem isReservedWord_iff (a : BitVec 10) :
    isReservedWord a = true ↔ 10 < a.toNat ∧ a.extractLsb' 6 4 ≠ 0x1#4 := by
  simp only [isReservedWord, Bool.or_eq_true, Bool.and_eq_true, decide_eq_true_eq, ne_eq, ← BitVec.toNat_inj,
    BitVec.extractLsb'_toNat, BitVec.toNat_ofNat, Nat.shiftRight_eq_div_pow]
  omega

/-- An address above the registers is no register's. -/
theorem ne_register_of_above {a c : BitVec 10} (h : 10 < a.toNat) (hc : c.toNat ≤ 10) : a ≠ c := by
  rintro rfl
  omega

/-- Above the registers a read is of the PAYLOAD window or of a reserved address. -/
theorem decodeRead_above {a : BitVec 10} (h : 10 < a.toNat) :
    decodeRead a = if a.extractLsb' 6 4 = 0x1#4 then .rdPayload (a.extractLsb' 0 6) else .rdRsvd a := by
  simp [decodeRead, ne_register_of_above h]

/-- Above the registers a write is to the PAYLOAD window or to a reserved address. -/
theorem decodeWrite_above {a : BitVec 10} (h : 10 < a.toNat) (v : Word) :
    decodeWrite a v = if a.extractLsb' 6 4 = 0x1#4 then .wrPayload (a.extractLsb' 0 6) v else .wrRsvd a v := by
  simp [decodeWrite, ne_register_of_above h]

/-- The PAYLOAD window lies above the registers (R82: 0x100 to 0x1FC). -/
theorem above_of_window {a : BitVec 10} (h : a.extractLsb' 6 4 = 0x1#4) : 10 < a.toNat := by
  have hnat := congrArg BitVec.toNat h
  simp only [BitVec.extractLsb'_toNat, Nat.shiftRight_eq_div_pow, BitVec.toNat_ofNat] at hnat
  omega

theorem decodeRead_window {a : BitVec 10} (h : a.extractLsb' 6 4 = 0x1#4) :
    decodeRead a = .rdPayload (a.extractLsb' 0 6) := by
  rw [decodeRead_above (above_of_window h), if_pos h]

theorem decodeWrite_window {a : BitVec 10} (h : a.extractLsb' 6 4 = 0x1#4) (v : Word) :
    decodeWrite a v = .wrPayload (a.extractLsb' 0 6) v := by
  rw [decodeWrite_above (above_of_window h), if_pos h]

theorem decodeRead_reserved {a : BitVec 10} (h : isReservedWord a = true) : decodeRead a = .rdRsvd a := by
  obtain ⟨habove, hwindow⟩ := (isReservedWord_iff a).mp h
  rw [decodeRead_above habove, if_neg hwindow]

theorem decodeWrite_reserved {a : BitVec 10} (h : isReservedWord a = true) (v : Word) :
    decodeWrite a v = .wrRsvd a v := by
  obtain ⟨habove, hwindow⟩ := (isReservedWord_iff a).mp h
  rw [decodeWrite_above habove, if_neg hwindow]

/-- The word of a read at word address `a` is decoded as the read of `a`. -/
theorem decode_busReadWord (a : BitVec 10) : decode (busReadWord (a ++ 0b00#2)) = .ok (decodeRead a) :=
  congrArg Except.ok (decodeBus_append 0b10#2 a 0b00#2 0#32)

/-- The word of a write at word address `a` is decoded as the write to `a`. -/
theorem decode_busWriteWord (a : BitVec 10) (v : Word) :
    decode (busWriteWord (a ++ 0b00#2) v) = .ok (decodeWrite a v) :=
  congrArg Except.ok (decodeBus_append 0b11#2 a 0b00#2 v)

/-- The address of PAYLOAD word `k`, as a word address. -/
theorem payloadAddress_eq (k : BitVec 6) : 0x1#4 ++ (k ++ 0b00#2) = (0x1#4 ++ k) ++ 0b00#2 :=
  BitVec.append_assoc.symm

theorem decodeRead_payload (k : BitVec 6) : decodeRead (0x1#4 ++ k) = .rdPayload k := by
  rw [decodeRead_window BitVec.extractLsb'_append_eq_left, BitVec.extractLsb'_append_eq_right]

theorem decodeWrite_payload (k : BitVec 6) (v : Word) : decodeWrite (0x1#4 ++ k) v = .wrPayload k v := by
  rw [decodeWrite_window BitVec.extractLsb'_append_eq_left, BitVec.extractLsb'_append_eq_right]

/-- Settles O1: a PAYLOAD or reserved address goes through the word addresses, RXBYTE through the fields of its word; the
words of the other operations are constants. -/
theorem decodeOfEncodeIsTheOperation : Obligations.DecodeOfEncodeIsTheOperation := by
  intro i hwf
  cases i
  case rxByte d => exact congrArg Except.ok (decodeStream_append 0b01#2 d)
  case rdPayload k => rw [encode, payloadAddress_eq, decode_busReadWord, decodeRead_payload]
  case wrPayload k v => rw [encode, payloadAddress_eq, decode_busWriteWord, decodeWrite_payload]
  case rdRsvd a => rw [encode, decode_busReadWord, decodeRead_reserved hwf]
  case wrRsvd a v => rw [encode, decode_busWriteWord, decodeWrite_reserved hwf]
  all_goals rfl

/-! ## Every word selects an operation (30_encoding.md R84) -/

/-- A word address is that of a register, one of the PAYLOAD window, or reserved. -/
theorem wordAddress_cases (a : BitVec 10) : a.toNat ≤ 10 ∨ a.extractLsb' 6 4 = 0x1#4 ∨ isReservedWord a = true := by
  by_cases hreg : a.toNat ≤ 10
  · exact .inl hreg
  · by_cases hwin : a.extractLsb' 6 4 = 0x1#4
    · exact .inr (.inl hwin)
    · exact .inr (.inr ((isReservedWord_iff a).mpr ⟨Nat.lt_of_not_le hreg, hwin⟩))

/-- A read and a write at the word address of a register stand in the table, with the word of that address. -/
theorem register_mem_registerRows {a : BitVec 10} (h : a.toNat ≤ 10) (v : Word) :
    (0b10#2 ++ (a ++ 0b00#2), decodeRead a) ∈ Claims.registerRows v ∧
    (0b11#2 ++ (a ++ 0b00#2), decodeWrite a v) ∈ Claims.registerRows v := by
  obtain ⟨n, hn, rfl⟩ : ∃ n ≤ 10, a = BitVec.ofNat 10 n := ⟨a.toNat, h, by simp⟩
  interval_cases n <;> simp [Claims.registerRows, decodeRead, decodeWrite]

/-- A register row of the opcode table: its match value decodes to its operation and encodes it. -/
theorem registerRow_spec {v : Word} {m : BitVec 14} {i : Instr} (h : (m, i) ∈ Claims.registerRows v) :
    i.wf = true ∧ i ≠ .busNop ∧ decodeBus m v = i ∧ ∃ x, encode i = .bus m x := by
  simp only [Claims.registerRows] at h
  fin_cases h <;> exact ⟨rfl, nofun, rfl, _, rfl⟩

/-- A word address is its window bits followed by the index into the PAYLOAD window. -/
theorem windowBits_append_index (a : BitVec 10) : a.extractLsb' 6 4 ++ a.extractLsb' 0 6 = a := by
  rw [BitVec.extractLsb'_append_extractLsb'_eq_extractLsb' (rfl : 6 = 0 + 6), BitVec.extractLsb'_eq_self]

/-- A read operation is well-formed, and its word is the read word of the address it was decoded from. -/
theorem decodeRead_wf_encode (a : BitVec 10) :
    (decodeRead a).wf = true ∧ ∃ x, encode (decodeRead a) = .bus (0b10#2 ++ (a ++ 0b00#2)) x := by
  rcases wordAddress_cases a with hreg | hwin | hres
  · obtain ⟨hwf, -, -, henc⟩ := registerRow_spec (register_mem_registerRows hreg 0#32).1
    exact ⟨hwf, henc⟩
  · rw [decodeRead_window hwin, encode, busReadWord, payloadAddress_eq, ← hwin, windowBits_append_index]
    exact ⟨rfl, _, rfl⟩
  · rw [decodeRead_reserved hres]
    exact ⟨hres, _, rfl⟩

/-- A write operation is well-formed, and its word is the write word of the address it was decoded from. -/
theorem decodeWrite_wf_encode (a : BitVec 10) (v : Word) :
    (decodeWrite a v).wf = true ∧ ∃ x, encode (decodeWrite a v) = .bus (0b11#2 ++ (a ++ 0b00#2)) x := by
  rcases wordAddress_cases a with hreg | hwin | hres
  · obtain ⟨hwf, -, -, henc⟩ := registerRow_spec (register_mem_registerRows hreg v).2
    exact ⟨hwf, henc⟩
  · rw [decodeWrite_window hwin, encode, busWriteWord, payloadAddress_eq, ← hwin, windowBits_append_index]
    exact ⟨rfl, _, rfl⟩
  · rw [decodeWrite_reserved hres]
    exact ⟨hres, _, rfl⟩

/-- Every BUS word is its fields put together. -/
theorem exists_busFields (w : BitVec 14) : ∃ (f : BitVec 2) (a : BitVec 10) (lo : BitVec 2), w = f ++ (a ++ lo) := by
  refine ⟨w.extractLsb' 12 2, w.extractLsb' 2 10, w.extractLsb' 0 2, ?_⟩
  rw [BitVec.extractLsb'_append_extractLsb'_eq_extractLsb' (rfl : 2 = 0 + 2),
    BitVec.extractLsb'_append_extractLsb'_eq_extractLsb' (rfl : 12 = 0 + 12), BitVec.extractLsb'_eq_self]

/-- The mask of the register rows clears the ignored address bits. -/
theorem busFields_and_registerMask (f : BitVec 2) (a : BitVec 10) (lo : BitVec 2) :
    (f ++ (a ++ lo)) &&& 0x3FFC#14 = f ++ (a ++ 0b00#2) := by
  show (f ++ (a ++ lo)) &&& (BitVec.allOnes 2 ++ (BitVec.allOnes 10 ++ 0b00#2)) = f ++ (a ++ 0b00#2)
  simp only [BitVec.and_append, BitVec.and_allOnes, BitVec.and_zero]

/-- S = 0, a read, or a write (30_encoding.md R80). -/
theorem access_cases (f : BitVec 2) : f.getLsbD 1 = false ∨ f = 0b10#2 ∨ f = 0b11#2 := by
  revert f
  decide

/-- The operation of a host access is well-formed, and its word is the word decoded, without the ignored address bits. -/
theorem decodeBus_wf_encode {w : BitVec 14} (hs : w.getLsbD 13 = true) (v : Word) :
    (decodeBus w v).wf = true ∧ ∃ x, encode (decodeBus w v) = .bus (w &&& 0x3FFC#14) x := by
  obtain ⟨f, a, lo, rfl⟩ := exists_busFields w
  rw [busFields_and_registerMask, decodeBus_append]
  rcases access_cases f with hf | rfl | rfl
  · exact absurd (hs.symm.trans (BitVec.getLsbD_append.trans hf)) nofun
  · exact decodeRead_wf_encode a
  · exact decodeWrite_wf_encode a v

/-- A STREAM operation is well-formed and has a STREAM word. -/
theorem wf_encode_of_isStream {i : Instr} (h : isStream i = true) : i.wf = true ∧ ∃ w, encode i = .stream w := by
  cases i
  case rxFault | rxByte | rxIdle => exact ⟨rfl, _, rfl⟩
  all_goals cases h

/-- Settles O2: a STREAM word selects a stream operation; a BUS word selects BUS.NOP or a host access. -/
theorem everyWordSelectsAWellFormedOperation : Obligations.EveryWordSelectsAWellFormedOperation := by
  refine ⟨fun w => ⟨_, rfl, wf_encode_of_isStream (decodeStream_isStream w)⟩, fun w v => ⟨_, rfl, ?bus⟩, rfl, rfl⟩
  case bus =>
    cases hs : w.getLsbD 13
    case false =>
      rw [decodeBus_of_not_selected hs]
      exact ⟨rfl, _, _, rfl⟩
    case true =>
      obtain ⟨hwf, x, henc⟩ := decodeBus_wf_encode hs v
      exact ⟨hwf, _, x, henc⟩

/-! ## The opcode table (30_encoding.md R83) -/

/-- A host access is no BUS.NOP: the word of BUS.NOP has S = 0. -/
theorem decodeBus_ne_busNop {w : BitVec 14} (hs : w.getLsbD 13 = true) (v : Word) : decodeBus w v ≠ .busNop := by
  intro hnop
  obtain ⟨-, x, henc⟩ := decodeBus_wf_encode hs v
  rw [hnop] at henc
  injection henc with hw
  have hbit : (w &&& 0x3FFC#14).getLsbD 13 = w.getLsbD 13 := by simp
  rw [← hw, hs] at hbit
  cases hbit

/-- The mask of the BUS.NOP row is bit S. -/
theorem decodeBus_eq_busNop_iff (w : BitVec 14) (v : Word) : w &&& 0x2000#14 = 0x0000#14 ↔ decodeBus w v = .busNop := by
  have hmask : w &&& 0x2000#14 = if w.getLsbD 13 then 0x2000#14 else 0#14 := BitVec.and_twoPow w 13
  cases hs : w.getLsbD 13
  case false =>
    rw [hmask, hs]
    exact iff_of_true rfl (decodeBus_of_not_selected hs v)
  case true =>
    rw [hmask, hs]
    exact iff_of_false nofun (decodeBus_ne_busNop hs v)

/-- The mask of the register rows is the bits the encoder writes. -/
theorem decodeBus_eq_register_iff {w m : BitVec 14} {v : Word} {i : Instr} (h : (m, i) ∈ Claims.registerRows v) :
    w &&& 0x3FFC#14 = m ↔ decodeBus w v = i := by
  obtain ⟨-, hne, hdec, x, henc⟩ := registerRow_spec h
  constructor
  · intro hw
    rw [← decodeBus_mask, hw, hdec]
  · intro hw
    cases hs : w.getLsbD 13
    case false => exact absurd (hw.symm.trans (decodeBus_of_not_selected hs v)) hne
    case true =>
      obtain ⟨-, y, hency⟩ := decodeBus_wf_encode hs v
      rw [hw, henc] at hency
      injection hency with hm
      exact hm.symm

/-- Words put together from fields of the same widths are equal exactly when their fields are. -/
theorem append_eq_append_iff {n k : Nat} {x x' : BitVec n} {y y' : BitVec k} :
    x ++ y = x' ++ y' ↔ x = x' ∧ y = y' := by
  constructor
  · intro h
    have hx := congrArg (BitVec.extractLsb' k n) h
    have hy := congrArg (BitVec.extractLsb' 0 k) h
    rw [BitVec.extractLsb'_append_eq_left, BitVec.extractLsb'_append_eq_left] at hx
    rw [BitVec.extractLsb'_append_eq_right, BitVec.extractLsb'_append_eq_right] at hy
    exact ⟨hx, hy⟩
  · rintro ⟨rfl, rfl⟩
    rfl

/-- The mask of the RSVD rows is the fields S and W. -/
theorem and_accessMask_iff (f m : BitVec 2) (a : BitVec 10) (lo : BitVec 2) :
    (f ++ (a ++ lo)) &&& 0x3000#14 = m ++ 0#12 ↔ f = m := by
  show (f ++ (a ++ lo)) &&& (BitVec.allOnes 2 ++ 0#12) = m ++ 0#12 ↔ f = m
  simp only [BitVec.and_append, BitVec.and_allOnes, BitVec.and_zero, append_eq_append_iff, and_true]

/-- The window bits of a word address, by their mask. -/
theorem and_windowBits (a : BitVec 10) : a &&& 0x3C0#10 = a.extractLsb' 6 4 ++ 0#6 := by
  calc
    a &&& 0x3C0#10 = (a.extractLsb' 6 4 ++ a.extractLsb' 0 6) &&& (BitVec.allOnes 4 ++ 0#6) :=
      congrArg (· &&& 0x3C0#10) (windowBits_append_index a).symm
    _ = a.extractLsb' 6 4 ++ 0#6 := by rw [BitVec.and_append, BitVec.and_allOnes, BitVec.and_zero]

/-- The mask of the PAYLOAD rows is the fields S and W and the window bits of the word address. -/
theorem and_payloadMask_iff (f m : BitVec 2) (a : BitVec 10) (lo : BitVec 2) :
    (f ++ (a ++ lo)) &&& 0x3F00#14 = m ++ 0x100#12 ↔ f = m ∧ a.extractLsb' 6 4 = 0x1#4 := by
  show (f ++ (a ++ lo)) &&& (BitVec.allOnes 2 ++ (0x3C0#10 ++ 0#2)) = m ++ ((0x1#4 ++ 0#6) ++ 0#2) ↔ _
  simp only [BitVec.and_append, BitVec.and_allOnes, BitVec.and_zero, and_windowBits, append_eq_append_iff, and_true]

/-- A host access whose word has no register row and no PAYLOAD row is to a reserved address. -/
theorem isReservedWord_of_no_row {f : BitVec 2} {a : BitVec 10} {lo : BitVec 2} {v : Word}
    (hf : f = 0b10#2 ∨ f = 0b11#2) (hrows : ∀ r ∈ Claims.registerRows v, (f ++ (a ++ lo)) &&& 0x3FFC#14 ≠ r.1)
    (hwin : (f ++ (a ++ lo)) &&& 0x3F00#14 ≠ f ++ 0x100#12) : isReservedWord a = true := by
  have hreg : ¬ a.toNat ≤ 10 := by
    intro h
    obtain ⟨hread, hwrite⟩ := register_mem_registerRows h v
    rcases hf with rfl | rfl
    · exact hrows _ hread (busFields_and_registerMask _ a lo)
    · exact hrows _ hwrite (busFields_and_registerMask _ a lo)
  exact (isReservedWord_iff a).mpr ⟨Nat.lt_of_not_le hreg, fun h => hwin ((and_payloadMask_iff f f a lo).mpr ⟨rfl, h⟩)⟩

/-- The PAYLOAD word index in the fields of a BUS word. -/
theorem extractLsb'_payloadIndex (f : BitVec 2) (a : BitVec 10) (lo : BitVec 2) :
    (f ++ (a ++ lo)).extractLsb' 2 6 = a.extractLsb' 0 6 := by
  rw [BitVec.extractLsb'_append_eq_of_add_le (by decide), BitVec.extractLsb'_append_eq_of_le (by decide)]

/-- Settles O3: each mask of the table selects fields of the word, and the fields decide the operation; an address in no
other row is reserved. -/
theorem busDecodingFollowsTheOpcodeTable : Obligations.BusDecodingFollowsTheOpcodeTable := by
  intro w v
  refine ⟨decodeBus_eq_busNop_iff w v, fun r hr => decodeBus_eq_register_iff hr, ?_⟩
  obtain ⟨f, a, lo, rfl⟩ := exists_busFields w
  rw [extractLsb'_payloadIndex, extractLsb'_busFields]
  refine ⟨fun hwin => ?rdPayload, fun hwin => ?wrPayload, fun hf hrows hwin => ?rdRsvd, fun hf hrows hwin => ?wrRsvd⟩
  case rdPayload =>
    obtain ⟨rfl, ha⟩ := (and_payloadMask_iff f 0b10#2 a lo).mp hwin
    exact (decodeBus_append _ a lo v).trans (decodeRead_window ha)
  case wrPayload =>
    obtain ⟨rfl, ha⟩ := (and_payloadMask_iff f 0b11#2 a lo).mp hwin
    exact (decodeBus_append _ a lo v).trans (decodeWrite_window ha v)
  case rdRsvd =>
    obtain rfl := (and_accessMask_iff f 0b10#2 a lo).mp hf
    exact (decodeBus_append _ a lo v).trans (decodeRead_reserved (isReservedWord_of_no_row (.inl rfl) hrows hwin))
  case wrRsvd =>
    obtain rfl := (and_accessMask_iff f 0b11#2 a lo).mp hf
    exact (decodeBus_append _ a lo v).trans (decodeWrite_reserved (isReservedWord_of_no_row (.inr rfl) hrows hwin) v)

/-- Settles O6 by computation: the words are constants. -/
theorem sampleWordsDecode : Obligations.SampleWordsDecode := by
  unfold Obligations.SampleWordsDecode
  decide

/-! ## The step (30_encoding.md R78, R84) -/

/-- Settles O9: the step takes the listed vector, and its CTL word picks RESET or the normal cycle. -/
theorem stepRunsThePresentedOperations : Obligations.StepRunsThePresentedOperations := by
  intro s v rest h
  refine ⟨fun hc => ?_, fun i j hc hi hj => ?_⟩
  · exact (step_listed h).trans (runCycle_reset hc _)
  · cases hi
    cases hj
    exact (step_listed h).trans (runCycle_normal hc _)

/-- Settles O10: every input vector, listed or free, resets the machine or runs a normal cycle, and both answer. -/
theorem everyStepAnswersANextState : Obligations.EveryStepAnswersANextState := by
  intro s
  rcases runCycle_cases (nextInput s) with hreset | ⟨_, _, _, _, hnormal⟩
  · exact ⟨_, hreset _⟩
  · exact ⟨_, hnormal _⟩

/-! ## Button slots (30_encoding.md R76) -/

/-- The bits of a big-endian field: bit `i` is bit `i mod 8` of the byte `i / 8` bytes before the last. -/
theorem field24_getLsbD (p : Memory) (o : Nat) {i : Nat} (hi : i < 24) :
    (field24 p o).getLsbD i = (p.read (o + 2 - i / 8)).getLsbD (i % 8) := by
  obtain ⟨q, r, hr, rfl⟩ : ∃ q r, r < 8 ∧ i = 8 * q + r := ⟨i / 8, i % 8, by omega, by omega⟩
  have hdiv : (8 * q + r) / 8 = q := by omega
  have hmod : (8 * q + r) % 8 = r := by omega
  have hq : q < 3 := by omega
  simp only [hdiv, hmod, field24, be24, BitVec.getLsbD_append]
  interval_cases q
  · simp [hr]
  · simp [hr]
  · have hlast : ¬ 16 + r < 8 := by omega
    have hmiddle : 16 + r - 8 = 8 + r := by omega
    simp [hlast, hmiddle, hr]

/-- A commit of a long payload takes BUTTONS from its field (41_decoder.md R142). -/
theorem acceptFrame_buttons {s : State} (h : 12 ≤ s.rx.rxLen.toNat) :
    (acceptFrame s).dec.buttons = field24 s.rx.rxbuf buttonsOffset := by
  have hlong : ¬ s.rx.rxLen.toNat < minDecodeLen := Nat.not_lt.mpr h
  simp only [acceptFrame, endAttempt_dec, commit, decodePayload, if_neg hlong]

/-- Settles O22: slot `i` is a bit of the big-endian button field at offset 3. -/
theorem buttonSlotsFollowTheTable : Obligations.ButtonSlotsFollowTheTable := by
  intro s i hs hen hlen hi
  refine ⟨_, exec_eq_effect _ s, ?_⟩
  rw [effect_commit ⟨hs, hen⟩, acceptFrame_buttons hlen]
  exact field24_getLsbD _ buttonsOffset hi

end Sys2Proof.Machine

/-! PROOFS of the family 40_frame_receiver.md: the stream operations, state by state; what a normal cycle does to the
receiver; traces of several cycles. -/

namespace Sys2Proof.Machine

/-! ## The stream operations, state by state (40_frame_receiver.md R100) -/

theorem rxFaultPhase_of_ne_halt {s : State} (hs : s.rx.fsm ≠ .halt) : rxFaultPhase s = raise .fatal s := if_neg hs

/-- HALT ignores every stream operation (R104). -/
theorem effect_halt {i : Instr} (hi : isStream i = true) {s : State} (hs : s.rx.fsm = .halt) : effect i s = s := by
  cases i
  case rxFault | rxByte | rxIdle => exact if_pos hs
  all_goals cases hi

/-- A disabled receiver drops bytes and runs no timeout (R103). -/
theorem rxBytePhase_disabled {s : State} (hen : s.ctrl.en = false) (d : Byte) : rxBytePhase d s = s := by
  simp [rxBytePhase, hen]

theorem rxIdlePhase_disabled {s : State} (hen : s.ctrl.en = false) : rxIdlePhase s = s := by
  simp [rxIdlePhase, hen]

/-- HUNT, start marker (R105). -/
theorem rxBytePhase_startMarker {s : State} (hs : s.rx.fsm = .hunt) (hen : s.ctrl.en = true) :
    rxBytePhase 0xAA#8 s = startAttempt s := by
  simp [rxBytePhase, hs, hen, sof]

/-- HUNT, noise (R106). -/
theorem rxBytePhase_noise {s : State} (hs : s.rx.fsm = .hunt) {d : Byte} (hd : d ≠ 0xAA#8) : rxBytePhase d s = s := by
  simp [rxBytePhase, hs, sof, hd]

/-- LEN, any byte (R108). -/
theorem rxBytePhase_len {s : State} (hs : s.rx.fsm = .len) (hen : s.ctrl.en = true) (d : Byte) :
    rxBytePhase d s = takeLength d s := by
  simp [rxBytePhase, hs, hen]

/-- PAYLOAD, any byte (R110). -/
theorem rxBytePhase_payload {s : State} (hs : s.rx.fsm = .payload) (hen : s.ctrl.en = true) (d : Byte) :
    rxBytePhase d s = takePayload d s := by
  simp [rxBytePhase, hs, hen]

/-- END, end marker (R112). -/
theorem rxBytePhase_endMarker {s : State} (hs : s.rx.fsm = .endMark) (hen : s.ctrl.en = true) :
    rxBytePhase 0xBB#8 s = acceptFrame s := by
  simp [rxBytePhase, hs, hen, eof]

/-- END, any other byte (R113). -/
theorem rxBytePhase_wrongEndMarker {s : State} (hs : s.rx.fsm = .endMark) (hen : s.ctrl.en = true) {d : Byte}
    (hd : d ≠ 0xBB#8) : rxBytePhase d s = raise .frameMismatch s := by
  simp [rxBytePhase, hs, hen, eof, hd]

/-- HUNT, no byte (R107). -/
theorem rxIdlePhase_hunt {s : State} (hs : s.rx.fsm = .hunt) : rxIdlePhase s = s := by
  simp [rxIdlePhase, hs]

/-- The error of a timed state (R109, R111, R114); HUNT and HALT run no timeout. -/
def timeoutError : RxState → Option ErrKind
  | .len => some .lengthTimeout
  | .payload => some .payloadTimeout
  | .endMark => some .frameMismatch
  | .hunt | .halt => none

/-- A timed state with no byte waits for its own error (R109, R111, R114). -/
theorem rxIdlePhase_timed {s : State} {k : ErrKind} (hk : timeoutError s.rx.fsm = some k) (hen : s.ctrl.en = true) :
    rxIdlePhase s = waitTimed k s := by
  cases hs : s.rx.fsm <;> rw [hs] at hk <;> cases hk <;> simp [rxIdlePhase, hs, hen]

/-- A timeout error has the entry of the receiver errors (60_exceptions.md R231). -/
theorem raise_timeoutError {f : RxState} {k : ErrKind} (hk : timeoutError f = some k) (s : State) :
    raise k s = ((s.addEvent k.eventBit).setLastErr k).endAttempt .hunt := by
  cases f <;> cases hk <;> rfl

/-- The timeout predicate is false (R101). -/
theorem not_expired_iff (s : State) :
    ¬ expired s = true ↔ s.ctrl.timeout = 0#32 ∨ s.rx.tmr.toNat + 1 < s.ctrl.timeout.toNat := by
  rw [expired_iff, not_and_or, not_not, Nat.not_le]

theorem waitTimed_of_expired {s : State} (k : ErrKind) (h0 : s.ctrl.timeout ≠ 0#32)
    (h : s.ctrl.timeout.toNat ≤ s.rx.tmr.toNat + 1) : waitTimed k s = raise k s :=
  if_pos ((expired_iff s).mpr ⟨h0, h⟩)

theorem waitTimed_of_not_expired {s : State} (k : ErrKind)
    (h : s.ctrl.timeout = 0#32 ∨ s.rx.tmr.toNat + 1 < s.ctrl.timeout.toNat) : waitTimed k s = tickTimer s :=
  if_neg ((not_expired_iff s).mpr h)

/-- Settles O11: the entry of the fatal error. -/
theorem faultEntersHalt : Obligations.FaultEntersHalt := by
  intro s hs
  exact congrArg Host.Outcome.next (rxFaultPhase_of_ne_halt hs)

/-- Settles O12: the dispatch of each stream operation tests for HALT first. -/
theorem haltIgnoresEveryStreamOperation : Obligations.HaltIgnoresEveryStreamOperation := by
  intro s d hs
  have hkeep {i : Instr} (hi : isStream i = true) : exec i s = .next s := by rw [exec_eq_effect, effect_halt hi hs]
  exact ⟨hkeep rfl, hkeep rfl, hkeep rfl⟩

/-- Settles O13: the dispatch tests CTRL.EN before it looks at the byte. -/
theorem disabledReceiverDropsBytes : Obligations.DisabledReceiverDropsBytes := by
  intro s d hen
  exact ⟨congrArg Host.Outcome.next (rxBytePhase_disabled hen d), congrArg Host.Outcome.next (rxIdlePhase_disabled hen)⟩

/-- Settles O14: HUNT tells the start marker from noise. -/
theorem huntScansForTheStartMarker : Obligations.HuntScansForTheStartMarker := by
  intro s d hs hen
  refine ⟨?start, fun hd => congrArg Host.Outcome.next (rxBytePhase_noise hs hd),
    congrArg Host.Outcome.next (rxIdlePhase_hunt hs)⟩
  case start =>
    rintro rfl
    exact congrArg Host.Outcome.next (rxBytePhase_startMarker hs hen)

/-- Settles O15: the next state depends on whether a payload follows. -/
theorem lengthByteIsTaken : Obligations.LengthByteIsTaken := by
  intro s d hs hen
  refine ⟨fun hd => ?_, fun hd => ?_⟩ <;> rw [exec_rxByte, rxBytePhase_len hs hen, takeLength]
  · rw [if_pos hd]
  · rw [if_neg hd]

/-- Settles O16: each timed state waits for its own error, which is raised when the time has run out. -/
theorem idleTimedStateTimesOutOrTicks : Obligations.IdleTimedStateTimesOutOrTicks := by
  intro s f k bit hmem hs hen
  have hk : timeoutError s.rx.fsm = some k ∧ k.eventBit = bit := by
    rw [hs]
    fin_cases hmem <;> exact ⟨rfl, rfl⟩
  obtain ⟨hk, rfl⟩ := hk
  have hidle : exec .rxIdle s = .next (waitTimed k s) := congrArg Host.Outcome.next (rxIdlePhase_timed hk hen)
  refine ⟨fun h0 hexp => ?_, fun h => ⟨_, sat32_toNat _, ?_⟩⟩
  · rw [hidle, waitTimed_of_expired k h0 hexp, raise_timeoutError hk]
    rfl
  · rw [hidle, waitTimed_of_not_expired k h]
    rfl

/-- Settles O18: the entry of FrameMismatch. -/
theorem wrongEndMarkerIsAMismatch : Obligations.WrongEndMarkerIsAMismatch := by
  intro s d hs hen hd
  exact congrArg Host.Outcome.next (rxBytePhase_wrongEndMarker hs hen hd)

/-- A payload byte goes to RXBUF at `rx_idx`, whatever happens after it (R110). -/
theorem takePayload_rxbuf (d : Byte) (s : State) :
    (takePayload d s).rx.rxbuf = s.rx.rxbuf.write s.rx.rxIdx.toNat d := by
  rw [takePayload_eq]
  split_ifs <;> rfl

theorem takePayload_last {s : State} (h : s.rx.rxIdx.toNat + 1 = s.rx.rxLen.toNat) (d : Byte) :
    takePayload d s = enterEnd (storeByte d s) := if_pos h

theorem takePayload_of_expired {s : State} (h : s.rx.rxIdx.toNat + 1 ≠ s.rx.rxLen.toNat) (h0 : s.ctrl.timeout ≠ 0#32)
    (hexp : s.ctrl.timeout.toNat ≤ s.rx.tmr.toNat + 1) (d : Byte) :
    takePayload d s = raise .payloadTimeout (storeByte d s) := by
  rw [takePayload_eq, if_neg h, if_pos ((expired_iff s).mpr ⟨h0, hexp⟩)]

theorem takePayload_of_not_expired {s : State} (h : s.rx.rxIdx.toNat + 1 ≠ s.rx.rxLen.toNat)
    (hexp : s.ctrl.timeout = 0#32 ∨ s.rx.tmr.toNat + 1 < s.ctrl.timeout.toNat) (d : Byte) :
    takePayload d s = tickTimer (storeByte d s) := by
  rw [takePayload_eq, if_neg h, if_neg ((not_expired_iff s).mpr hexp)]

/-- Settles O17: the byte is stored first; then the payload is complete, the time has run out, or the timer advances. -/
theorem payloadByteIsStored : Obligations.PayloadByteIsStored := by
  intro s d hs hen hform
  refine ⟨takePayload d s, congrArg Host.Outcome.next (rxBytePhase_payload hs hen d), ?_⟩
  rw [takePayload_rxbuf]
  refine ⟨Memory.read_write_same hform _ d, fun a ha => Memory.read_write_ne _ ha d, fun hlast => ?last,
    fun hlast h0 hexp => ?expired, fun hlast hexp => ⟨_, sat32_toNat _, ?more⟩⟩
  case last =>
    rw [takePayload_last hlast]
    rfl
  case expired =>
    rw [takePayload_of_expired hlast h0 hexp]
    rfl
  case more =>
    rw [takePayload_of_not_expired hlast hexp]
    rfl

/-! ## What a commit does (R112, R115) -/

/-- The events of a commit: FRAME_OK, and TOO_SHORT beside it when Decode rejects the payload (41_decoder.md R141). -/
theorem acceptFrame_ev (s : State) :
    (acceptFrame s).out.ev =
      s.out.ev ||| if s.rx.rxLen.toNat < minDecodeLen then 0b010001#6 else 0b000001#6 := by
  have hboth : evFrameOk ||| ErrKind.payloadTooShort.eventBit = 0b010001#6 := by decide
  unfold acceptFrame commit decodePayload
  split
  · rw [← hboth, ← BitVec.or_assoc]
    rfl
  · rfl

theorem acceptFrame_decValid (s : State) :
    (acceptFrame s).dec.decValid = decide (minDecodeLen ≤ s.rx.rxLen.toNat) := by
  unfold acceptFrame commit decodePayload
  split
  next h => exact (decide_eq_false (Nat.not_le.mpr h)).symm
  next h => exact (decide_eq_true (Nat.le_of_not_lt h)).symm

theorem acceptFrame_rx (s : State) :
    (acceptFrame s).rx = { s.rx with fsm := .hunt, tmr := 0#32, rxLen := 0#8, rxIdx := 0#8 } := by
  show ((commit s).endAttempt .hunt).rx = (s.endAttempt .hunt).rx
  rw [State.endAttempt, commit_rx]
  rfl

theorem acceptFrame_committed (s : State) : (acceptFrame s).committed = true := by
  unfold acceptFrame commit decodePayload
  split <;> rfl

/-- A copy leaves the bytes above it, whatever the form of the buffer (R115). -/
theorem Memory.read_copy_above {n i : Nat} (h : n ≤ i) (src dst : Memory) :
    (Memory.copy n src dst).read i = dst.read i := by
  induction n with
  | zero => rfl
  | succ n ih => exact (Memory.read_write_ne _ (Nat.ne_of_gt h) _).trans (ih (Nat.le_of_succ_le h))

/-- Settles O19: the commit copies the payload and signals FRAME_OK, Decode writes the decoded registers and the error,
and the attempt ends. -/
theorem endMarkerCommitsTheFrame : Obligations.EndMarkerCommitsTheFrame := by
  intro s hs hen hform
  refine ⟨acceptFrame s, congrArg Host.Outcome.next (rxBytePhase_endMarker hs hen), ?_⟩
  rw [acceptFrame_frame]
  refine ⟨fun i hi => read_copy_received hform hi, fun i hi => Memory.read_copy_above hi _ _, rfl, rfl, ?frameOk,
    acceptFrame_committed s, acceptFrame_rx s, ?rest⟩
  case frameOk =>
    rw [acceptFrame_ev, BitVec.getLsbD_or]
    split <;> exact Bool.or_true _
  case rest =>
    unfold acceptFrame commit decodePayload
    split <;> rfl

/-! ## What the stream operations leave unchanged (10_state.md R42) -/

theorem waitTimed_rxbuf (k : ErrKind) (s : State) : (waitTimed k s).rx.rxbuf = s.rx.rxbuf := by
  unfold waitTimed
  split
  · exact raise_rxbuf k s
  · rfl

/-- An idle cycle changes nothing or waits in a timed state (R100). -/
theorem rxIdlePhase_cases (s : State) :
    rxIdlePhase s = s ∨ ∃ k, timeoutError s.rx.fsm = some k ∧ rxIdlePhase s = waitTimed k s := by
  cases hen : s.ctrl.en
  case false => exact .inl (rxIdlePhase_disabled hen)
  case true =>
    cases hs : s.rx.fsm
    case hunt => exact .inl (rxIdlePhase_hunt hs)
    case halt => exact .inl (effect_halt (i := .rxIdle) rfl hs)
    all_goals exact .inr ⟨_, rfl, rxIdlePhase_timed (by rw [hs]; rfl) hen⟩

/-- The byte presented is a payload byte: an enabled receiver in PAYLOAD (R110). -/
def AtPayloadByte (s : State) : Prop := s.rx.fsm = .payload ∧ s.ctrl.en = true

theorem rxBytePhase_rxbuf {s : State} (h : ¬ AtPayloadByte s) (d : Byte) : (rxBytePhase d s).rx.rxbuf = s.rx.rxbuf := by
  obtain ⟨p, hp, hact⟩ := rxByte_action d s
  have heq : rxBytePhase d s = p s := hact.effect_eq
  rw [heq]
  cases hp
  case keep | start | length => rfl
  case fault | mismatch => exact raise_rxbuf _ s
  case payload d' hs hen => exact absurd ⟨hs, hen⟩ h
  case accept => rw [acceptFrame_rx]
  case wait k _ _ _ _ => exact waitTimed_rxbuf k s

/-- RXBUF is written by payload bytes only (10_state.md R26). -/
theorem effect_rxbuf {i : Instr} (hi : isStream i = true) {s : State}
    (h : ∀ d, ¬ (AtPayloadByte s ∧ i = .rxByte d)) : (effect i s).rx.rxbuf = s.rx.rxbuf := by
  cases i
  case rxFault =>
    rw [effect_rxFault, rxFaultPhase]
    split
    · rfl
    · exact raise_rxbuf .fatal s
  case rxByte d => exact rxBytePhase_rxbuf (fun hp => h d ⟨hp, rfl⟩) d
  case rxIdle =>
    rw [effect_rxIdle]
    rcases rxIdlePhase_cases s with heq | ⟨k, -, heq⟩ <;> rw [heq]
    exact waitTimed_rxbuf k s
  all_goals cases hi

/-- A stream operation writes at most the byte at `rx_idx` of RXBUF (R110). -/
theorem effect_rxbuf_read_ne {i : Instr} (hi : isStream i = true) (s : State) {a : Nat} (ha : a ≠ s.rx.rxIdx.toNat) :
    (effect i s).rx.rxbuf.read a = s.rx.rxbuf.read a := by
  by_cases h : ∃ d, AtPayloadByte s ∧ i = .rxByte d
  · obtain ⟨d, ⟨hs, hen⟩, rfl⟩ := h
    rw [effect_rxByte, rxBytePhase_payload hs hen, takePayload_rxbuf]
    exact Memory.read_write_ne _ ha d
  · rw [effect_rxbuf hi (not_exists.mp h)]

/-- A stream operation keeps every byte of FRAMEBUF from `rx_len` on (R115). -/
theorem effect_framebuf_read_above {i : Instr} (hi : isStream i = true) (s : State) {a : Nat}
    (ha : s.rx.rxLen.toNat ≤ a) : (effect i s).frame.framebuf.read a = s.frame.framebuf.read a := by
  by_cases h : AtEndMarker s ∧ i = .rxByte 0xBB#8
  · obtain ⟨hend, rfl⟩ := h
    rw [effect_commit hend, acceptFrame_frame]
    exact Memory.read_copy_above ha _ _
  · obtain ⟨hframe, -⟩ := effect_no_commit hi h
    rw [hframe]

/-- Settles O24: what no stream operation writes, and what only a commit or a payload byte writes. -/
theorem streamOperationsFrame : Obligations.StreamOperationsFrame := by
  intro s i d hi
  have hstream : isStream i = true := by rcases hi with rfl | rfl | rfl <;> rfl
  have hkeep := effect_streamKeeps hstream s
  refine ⟨effect i s, exec_eq_effect i s, hkeep.params, hkeep.ctrl, hkeep.trk, hkeep.events, hkeep.inputs, hkeep.draws,
    hkeep.cycle, effect_keepsPorts hstream s, fun a ha => effect_framebuf_read_above hstream s ha, fun h => ?commit,
    fun a ha => effect_rxbuf_read_ne hstream s ha, fun h => ?payload⟩
  case commit => exact effect_no_commit hstream fun ⟨⟨hs, hen⟩, hbyte⟩ => h ⟨hs, hen, hbyte⟩
  case payload =>
    refine effect_rxbuf hstream ?_
    rintro d' ⟨⟨hs, hen⟩, rfl⟩
    have hd : Instr.rxByte d' = .rxByte d := by simpa using hi
    exact h ⟨hs, hen, hd⟩

/-! ## What a normal cycle does to the receiver (00_scope.md R9) -/

/-- `s` with the inputs `l` still to come: what a step runs its cycle on, once it has taken its own input vector. -/
def State.withInputs (s : State) (l : List CycleIn) : State := { s with inputs := l }

theorem step_afterCycle {s : State} {v : CycleIn} {rest : List CycleIn} (h : s.inputs = v :: rest) (hc : v.ctl = 0#1) :
    step s = .next (afterCycle (decodeStream v.stream) (decodeBus v.bus v.wdata) (s.withInputs rest)) :=
  step_normal h hc

theorem afterCycle_frame (i j : Instr) (s : State) :
    (afterCycle i j s).frame = (effect i (beginCycle s)).frame := by simp [afterCycle]

theorem afterCycle_dec (i j : Instr) (s : State) : (afterCycle i j s).dec = (effect i (beginCycle s)).dec := by
  simp [afterCycle]

theorem afterCycle_lastErr (i j : Instr) (s : State) :
    (afterCycle i j s).log.lastErr = (effect i (beginCycle s)).log.lastErr := by simp [afterCycle]

theorem afterCycle_ev (i j : Instr) (s : State) : (afterCycle i j s).out.ev = (effect i (beginCycle s)).out.ev := by
  simp [afterCycle]

theorem afterCycle_inputs {i : Instr} (hi : isStream i = true) (j : Instr) (s : State) :
    (afterCycle i j s).inputs = s.inputs := by
  simp [afterCycle, (effect_streamKeeps hi (beginCycle s)).inputs]

/-- A write keeps the receiver state, or disables the receiver outside HALT and ends the attempt
(43_host_bus.md R183). -/
theorem writeEffect_rx_cases (j : Instr) (s : State) :
    (writeEffect j s).rx = s.rx ∨ (s.rx.fsm ≠ .halt ∧ (writeEffect j s).rx = (s.endAttempt .hunt).rx) := by
  cases j
  case wrCtrl x =>
    simp only [writeEffect]
    split
    next h => exact .inr ⟨h.2, rfl⟩
    next => exact .inl rfl
  all_goals exact .inl rfl

/-- Settles O43: in HALT the stream phase changes nothing and no write reaches the receiver. -/
theorem onlyResetLeavesHalt : Obligations.OnlyResetLeavesHalt := by
  intro s v rest h hc hs
  have hkeep : effect (decodeStream v.stream) (beginCycle (s.withInputs rest)) =
      beginCycle (s.withInputs rest) := effect_halt (decodeStream_isStream _) hs
  refine ⟨_, step_afterCycle h hc, ?rx, ?ev, ?lastErr, ?frame, ?dec⟩
  case rx =>
    rcases writeEffect_rx_cases (decodeBus v.bus v.wdata) (ratePhase (beginCycle (s.withInputs rest))) with
      hrx | ⟨hne, -⟩
    · simp only [afterCycle, hkeep]
      exact hrx
    · exact absurd hs hne
  case ev => rw [afterCycle_ev, hkeep]; rfl
  case lastErr => rw [afterCycle_lastErr, hkeep]; rfl
  case frame => rw [afterCycle_frame, hkeep]; rfl
  case dec => rw [afterCycle_dec, hkeep]; rfl

/-- Settles O44: no stream operation but the accepted end marker writes the frame, and no other phase does. -/
theorem frameChangesOnlyAtACommit : Obligations.FrameChangesOnlyAtACommit := by
  intro s v rest h hc hn
  have hn' : ¬ (AtEndMarker (beginCycle (s.withInputs rest)) ∧ decodeStream v.stream = .rxByte 0xBB#8) :=
    fun ⟨⟨hs, hen⟩, hbyte⟩ => hn ⟨hc, hs, hen, hbyte⟩
  obtain ⟨hframe, hdec, -⟩ := effect_no_commit (decodeStream_isStream v.stream) hn'
  exact ⟨_, step_afterCycle h hc, (afterCycle_frame _ _ _).trans hframe, (afterCycle_dec _ _ _).trans hdec⟩

/-- Outside END a cycle commits nothing. -/
theorem afterCycle_keepsFrame {i : Instr} (hi : isStream i = true) (j : Instr) {s : State} (hs : s.rx.fsm ≠ .endMark) :
    (afterCycle i j s).frame = s.frame ∧ (afterCycle i j s).dec = s.dec := by
  obtain ⟨hframe, hdec, -⟩ := effect_no_commit hi (s := beginCycle s) fun hc => hs hc.1.1
  exact ⟨(afterCycle_frame i j s).trans hframe, (afterCycle_dec i j s).trans hdec⟩

/-! ## Errors end the attempt (R116) -/

/-- The receiver is in `f` with no attempt in progress. -/
structure NoAttempt (f : RxState) (s : State) : Prop where
  fsm : s.rx.fsm = f
  tmr : s.rx.tmr = 0#32
  rxLen : s.rx.rxLen = 0#8
  rxIdx : s.rx.rxIdx = 0#8

/-- Each error but PayloadTooShort ends the attempt, FATAL (bit 5) in HALT and the others in HUNT. -/
theorem raise_noAttempt {k : ErrKind} (hk : k ≠ .payloadTooShort) (s : State) :
    NoAttempt (if k.eventBit.getLsbD 5 then .halt else .hunt) (raise k s) := by
  cases k
  case payloadTooShort => exact absurd rfl hk
  all_goals exact ⟨rfl, rfl, rfl, rfl⟩

theorem raise_dec {k : ErrKind} (hk : k ≠ .payloadTooShort) (s : State) : (raise k s).dec = s.dec := by
  cases k
  case payloadTooShort => exact absurd rfl hk
  all_goals rfl

/-- A write finds no attempt to end, and no other phase starts one. -/
theorem afterCycle_noAttempt {f : RxState} (hf : f = .hunt ∨ f = .halt) {i : Instr} {s : State}
    (h : NoAttempt f (effect i (beginCycle s))) (j : Instr) : NoAttempt f (afterCycle i j s) := by
  rcases writeEffect_rx_cases j (ratePhase (effect i (beginCycle s))) with hrx | ⟨hne, hrx⟩
  · exact ⟨hrx ▸ h.fsm, hrx ▸ h.tmr, hrx ▸ h.rxLen, hrx ▸ h.rxIdx⟩
  · obtain rfl : f = .hunt := hf.resolve_right fun hhalt => hne (h.fsm.trans hhalt)
    exact ⟨hrx ▸ rfl, hrx ▸ rfl, hrx ▸ rfl, hrx ▸ rfl⟩

/-- A stream operation adds no event, commits, or raises one error, after a payload byte was stored or not. -/
theorem effect_event {i : Instr} (hi : isStream i = true) (s : State) :
    (effect i s).out.ev = s.out.ev ∨ effect i s = acceptFrame s ∨
    ∃ k r, k ≠ .payloadTooShort ∧ effect i s = raise k r ∧ r.out.ev = s.out.ev ∧ r.frame = s.frame ∧ r.dec = s.dec := by
  obtain ⟨p, hp, hact⟩ := stream_action hi s
  rw [hact.effect_eq]
  cases hp
  case keep | start | length => exact .inl rfl
  case fault => exact .inr (.inr ⟨.fatal, s, nofun, rfl, rfl, rfl, rfl⟩)
  case payload d hs hen =>
    rw [takePayload_eq]
    split_ifs
    · exact .inl rfl
    · exact .inr (.inr ⟨.payloadTimeout, storeByte d s, nofun, rfl, rfl, rfl, rfl⟩)
    · exact .inl rfl
  case accept => exact .inr (.inl rfl)
  case mismatch => exact .inr (.inr ⟨.frameMismatch, s, nofun, rfl, rfl, rfl, rfl⟩)
  case wait k hk _ _ _ =>
    unfold waitTimed
    split
    · exact .inr (.inr ⟨k, s, hk.1, rfl, rfl, rfl, rfl⟩)
    · exact .inl rfl

/-- The events of a commit are FRAME_OK and TOO_SHORT (bits 0 and 4) only. -/
theorem acceptFrame_no_error {s : State} (h : s.out.ev = 0#6) : (acceptFrame s).out.ev &&& 0b101110#6 = 0#6 := by
  rw [acceptFrame_ev, h]
  split <;> decide

/-- Settles O45: such a cycle raised one error in its stream phase, which ended the attempt; a write of the same cycle
finds nothing left to end. -/
theorem noPartialFrameSurvivesAnError : Obligations.NoPartialFrameSurvivesAnError := by
  intro s v rest h hc
  refine ⟨_, step_afterCycle h hc, fun hev => ?_⟩
  rw [afterCycle_frame, afterCycle_dec]
  rw [afterCycle_ev] at hev ⊢
  rcases effect_event (decodeStream_isStream v.stream) (beginCycle (s.withInputs rest)) with
    hnone | hcommit | ⟨k, r, hk, hraise, hrev, hrframe, hrdec⟩
  · rw [hnone] at hev
    exact absurd BitVec.zero_and hev
  · rw [hcommit] at hev
    exact absurd (acceptFrame_no_error rfl) hev
  · have hbits : (raise k r).out.ev = k.eventBit := by
      rw [raise_ev, hrev]
      exact BitVec.zero_or
    obtain ⟨hfsm, htmr, hlen, hidx⟩ := afterCycle_noAttempt (ite_eq_or_eq _ _ _).symm
      (hraise ▸ raise_noAttempt hk r) (decodeBus v.bus v.wdata)
    rw [hraise, hbits]
    exact ⟨hfsm, htmr, hlen, hidx, (raise_frame k r).trans hrframe, (raise_dec hk r).trans hrdec⟩

/-! ## Runs (00_scope.md R9) -/

/-- The first step of a run, for any machine of the host's interface. -/
theorem coreRun_succ {M : Host.Core} {s t : M.State} (h : M.step s = .next t) (n : Nat) :
    M.run (n + 1) s = M.run n t := by
  rw [Host.Core.run, h]

theorem run_succ {s t : State} (h : step s = .next t) (n : Nat) : core.run (n + 1) s = core.run n t :=
  coreRun_succ (M := core) h n

/-- The last cycle of a run. -/
theorem run_succ_last {n : Nat} {s t u : State} (h : core.run n s = .next t) (hu : step t = .next u) :
    core.run (n + 1) s = .next u := by
  induction n generalizing s with
  | zero =>
    cases h
    exact run_succ hu 0
  | succ n ih =>
    obtain ⟨s', hstep⟩ := everyStepAnswersANextState s
    rw [run_succ hstep] at h ⊢
    exact ih h

/-- A run over a list of things to come: what every cycle keeps while it takes the first of them holds when all are
taken. -/
theorem run_list {α : Type} {P : List α → State → Prop}
    (hstep : ∀ a l s, P (a :: l) s → ∃ t, step s = .next t ∧ P l t) (l : List α) {s : State} (h : P l s) :
    ∃ t : State, core.run l.length s = .next t ∧ P [] t := by
  induction l generalizing s with
  | nil => exact ⟨s, rfl, h⟩
  | cons a l ih =>
    obtain ⟨u, hu, hl⟩ := hstep a l s h
    obtain ⟨t, ht, hnil⟩ := ih hl
    exact ⟨t, (run_succ hu _).trans ht, hnil⟩

/-! ## Cycles that leave the receiver enabled, and cycles without a host access -/

/-- The host does not disable the receiver in the cycle of the BUS operation `j` (43_host_bus.md R183). -/
def KeepsEnabled (j : Instr) : Prop := ∀ x, j = .wrCtrl x → x.toNat % 2 = 1

theorem writeEffect_keepsEnabled {j : Instr} (hj : KeepsEnabled j) {s : State} (hen : s.ctrl.en = true) :
    (writeEffect j s).rx = s.rx ∧ (writeEffect j s).ctrl.en = true := by
  cases j
  case wrCtrl x =>
    rw [writeEffect_wrCtrl_enable (hj x rfl)]
    exact ⟨rfl, rfl⟩
  all_goals exact ⟨rfl, hen⟩

/-- A cycle in which the host does not disable the receiver: the stream phase alone writes the receiver state. -/
theorem afterCycle_keepsEnabled {i j : Instr} (hi : isStream i = true) (hj : KeepsEnabled j) {s : State}
    (hen : s.ctrl.en = true) :
    (afterCycle i j s).rx = (effect i (beginCycle s)).rx ∧ (afterCycle i j s).ctrl.en = true := by
  have hctrl := (effect_streamKeeps hi (beginCycle s)).ctrl
  exact writeEffect_keepsEnabled hj (s := ratePhase (effect i (beginCycle s))) ((congrArg Ctrl.en hctrl).trans hen)

/-- Only WR.TIMEOUT writes TIMEOUT (10_state.md R33). -/
theorem afterCycle_timeout {i j : Instr} (hi : isStream i = true) (hj : ∀ x, j ≠ .wrTimeout x) (s : State) :
    (afterCycle i j s).ctrl.timeout = s.ctrl.timeout := by
  have hctrl := (effect_streamKeeps hi (beginCycle s)).ctrl
  exact (writeEffect_timeout hj (ratePhase (effect i (beginCycle s)))).trans (congrArg Ctrl.timeout hctrl)

theorem afterCycle_rx_busNop (i : Instr) (s : State) : (afterCycle i .busNop s).rx = (effect i (beginCycle s)).rx := rfl

theorem afterCycle_ctrl_busNop {i : Instr} (hi : isStream i = true) (s : State) :
    (afterCycle i .busNop s).ctrl = s.ctrl := (effect_streamKeeps hi (beginCycle s)).ctrl

theorem afterCycle_events_busNop {i : Instr} (hi : isStream i = true) (s : State) :
    (afterCycle i .busNop s).log.events = s.log.events ||| (effect i (beginCycle s)).out.ev := by
  have hevents := (effect_streamKeeps hi (beginCycle s)).events
  exact congrArg (· ||| (effect i (beginCycle s)).out.ev) hevents

/-- The STREAM operation of a trace line (30_encoding.md R87). -/
def traceOp : Option Byte → Instr
  | none => .rxIdle
  | some d => .rxByte d

theorem decodeStream_traceCycle (o : Option Byte) : decodeStream (traceCycle o).stream = traceOp o := by
  cases o
  case none => rfl
  case some d => exact decodeStream_append 0b01#2 d

/-- The cycle of a trace line presents its STREAM operation and no host access. -/
theorem step_trace {s : State} {o : Option Byte} {rest : List CycleIn} (h : s.inputs = traceCycle o :: rest) :
    step s = .next (afterCycle (traceOp o) .busNop (s.withInputs rest)) := by
  have hbus : (traceCycle o).bus = 0x0000#14 := by cases o <;> rfl
  have hctl : (traceCycle o).ctl = 0#1 := by cases o <;> rfl
  rw [step_afterCycle h hctl, decodeStream_traceCycle, hbus, decodeBus_of_not_selected rfl]

theorem traceOp_isStream (o : Option Byte) : isStream (traceOp o) = true := by cases o <;> rfl

/-! ## Timed states left idle (R101, R118) -/

/-- A timer below TIMEOUT advances without saturating. -/
theorem tickTimer_tmr_toNat {s : State} (h : s.rx.tmr.toNat + 1 < s.ctrl.timeout.toNat) :
    (tickTimer s).rx.tmr.toNat = s.rx.tmr.toNat + 1 := by
  rw [tickTimer_tmr, sat32_toNat]
  have := s.ctrl.timeout.isLt
  omega

/-- An idle cycle in which the time has not run out advances the timer. -/
theorem effect_idle_ticks {s : State} {k : ErrKind} (hk : timeoutError s.rx.fsm = some k) (hen : s.ctrl.en = true)
    (h : s.ctrl.timeout = 0#32 ∨ s.rx.tmr.toNat + 1 < s.ctrl.timeout.toNat) :
    effect .rxIdle (beginCycle s) = tickTimer (beginCycle s) := by
  rw [effect_rxIdle, rxIdlePhase_timed (s := beginCycle s) hk hen]
  exact waitTimed_of_not_expired k h

/-- An idle cycle in which the time has run out raises the state's error. -/
theorem effect_idle_expires {s : State} {k : ErrKind} (hk : timeoutError s.rx.fsm = some k) (hen : s.ctrl.en = true)
    (h0 : s.ctrl.timeout ≠ 0#32) (h : s.ctrl.timeout.toNat ≤ s.rx.tmr.toNat + 1) :
    effect .rxIdle (beginCycle s) = raise k (beginCycle s) := by
  rw [effect_rxIdle, rxIdlePhase_timed (s := beginCycle s) hk hen]
  exact waitTimed_of_expired k h0 h

/-- An idle cycle in which the time has not run out holds the timed state. -/
theorem step_idle_held {k : ErrKind} {s : State} {rest : List CycleIn} (hin : s.inputs = idleCycle :: rest)
    (hk : timeoutError s.rx.fsm = some k) (hen : s.ctrl.en = true)
    (hlt : s.rx.tmr.toNat + 1 < s.ctrl.timeout.toNat) :
    ∃ t, step s = .next t ∧ t.rx.fsm = s.rx.fsm ∧ t.rx.tmr.toNat = s.rx.tmr.toNat + 1 ∧ t.ctrl = s.ctrl ∧
      t.inputs = rest := by
  have hstep : step s = .next (afterCycle .rxIdle .busNop (s.withInputs rest)) := step_trace (o := none) hin
  have hrx : (afterCycle .rxIdle .busNop (s.withInputs rest)).rx = (tickTimer (beginCycle (s.withInputs rest))).rx := by
    rw [afterCycle_rx_busNop, effect_idle_ticks (s := s.withInputs rest) hk hen (.inr hlt)]
  refine ⟨_, hstep, ?fsm, ?tmr, afterCycle_ctrl_busNop rfl _, afterCycle_inputs rfl .busNop _⟩
  case fsm => rw [hrx]; rfl
  case tmr => rw [hrx]; exact tickTimer_tmr_toNat (s := beginCycle (s.withInputs rest)) hlt

/-- Fewer idle cycles than are left of TIMEOUT: the timed state is held and the timer counts them. -/
theorem run_idle_held {k : ErrKind} (n : Nat) {s : State} {rest : List CycleIn}
    (hin : s.inputs = List.replicate n idleCycle ++ rest) (hk : timeoutError s.rx.fsm = some k)
    (hen : s.ctrl.en = true) (hlt : s.rx.tmr.toNat + n < s.ctrl.timeout.toNat) :
    ∃ t : State, core.run n s = .next t ∧ t.rx.fsm = s.rx.fsm ∧ t.rx.tmr.toNat = s.rx.tmr.toNat + n ∧
      t.ctrl = s.ctrl ∧ t.inputs = rest := by
  induction n generalizing s with
  | zero => exact ⟨s, rfl, rfl, rfl, rfl, hin⟩
  | succ n ih =>
    obtain ⟨u, hstep, hfsm, htmr, hctrl, huin⟩ := step_idle_held hin hk hen (by omega)
    obtain ⟨t, hrun, hfsm', htmr', hctrl', hin'⟩ := ih huin (hfsm ▸ hk) (hctrl ▸ hen) (by rw [htmr, hctrl]; omega)
    exact ⟨t, (run_succ hstep n).trans hrun, hfsm'.trans hfsm, by omega, hctrl'.trans hctrl, hin'⟩

/-- The idle cycle in which the time has run out leads to HUNT with the state's error. -/
theorem step_idle_expires {k : ErrKind} {s : State} {rest : List CycleIn} (hin : s.inputs = idleCycle :: rest)
    (hk : timeoutError s.rx.fsm = some k) (hen : s.ctrl.en = true) (h0 : s.ctrl.timeout ≠ 0#32)
    (hexp : s.ctrl.timeout.toNat ≤ s.rx.tmr.toNat + 1) :
    ∃ t, step s = .next t ∧ t.rx.fsm = .hunt ∧ t.log.lastErr = some k ∧
      t.log.events = s.log.events ||| k.eventBit ∧ t.inputs = rest := by
  have hstep : step s = .next (afterCycle .rxIdle .busNop (s.withInputs rest)) := step_trace (o := none) hin
  have heffect := effect_idle_expires (s := s.withInputs rest) hk hen h0 hexp
  refine ⟨_, hstep, ?fsm, ?lastErr, ?events, afterCycle_inputs rfl .busNop _⟩
  case fsm =>
    rw [afterCycle_rx_busNop, heffect, raise_timeoutError hk, endAttempt_fsm]
  case lastErr => rw [afterCycle_lastErr, heffect, raise_lastErr]
  case events =>
    rw [afterCycle_events_busNop rfl, heffect, raise_ev, beginCycle_ev, BitVec.zero_or]
    rfl

/-- Settles O55: the timer counts the idle cycles, and the last one finds the time run out. -/
theorem anIdleTimedStateExpiresInItsLastCycle : Obligations.AnIdleTimedStateExpiresInItsLastCycle := by
  intro s rest f k bit hmem hs htmr hen h0 hin
  have hk : timeoutError s.rx.fsm = some k ∧ k.eventBit.getLsbD bit = true := by
    rw [hs]
    fin_cases hmem <;> exact ⟨rfl, rfl⟩
  obtain ⟨hk, hbit⟩ := hk
  have hcount : s.rx.tmr.toNat = 0 := congrArg BitVec.toNat htmr
  have hheld (n : Nat) (hn : n < s.ctrl.timeout.toNat) := run_idle_held n (s := s)
    (rest := List.replicate (s.ctrl.timeout.toNat - n) idleCycle ++ rest) (k := k)
    (by rw [← List.append_assoc, List.replicate_append_replicate, Nat.add_sub_cancel' hn.le, hin]) hk hen (by omega)
  refine ⟨fun n hn => ?held, ?expires⟩
  case held =>
    obtain ⟨u, hrun, hfsm, -⟩ := hheld n hn
    exact ⟨u, hrun, hfsm.trans hs⟩
  case expires =>
    obtain ⟨n, hT⟩ : ∃ n, s.ctrl.timeout.toNat = n + 1 :=
      Nat.exists_eq_succ_of_ne_zero fun hz => h0 (BitVec.eq_of_toNat_eq hz)
    obtain ⟨u, hrun, hfsm, hutmr, hctrl, huin⟩ := hheld n (by omega)
    have hlast : s.ctrl.timeout.toNat - n = 1 := by omega
    rw [hlast] at huin
    obtain ⟨t, hstep, hhunt, herr, hevents, htin⟩ := step_idle_expires (s := u) (k := k) huin (hfsm ▸ hk)
      (hctrl ▸ hen) (hctrl ▸ h0) (by rw [hutmr, hctrl]; omega)
    refine ⟨t, ?_, hhunt, herr, ?_, htin⟩
    · rw [hT]
      exact run_succ_last hrun hstep
    · rw [hevents, BitVec.getLsbD_or, hbit, Bool.or_true]

/-! ## A payload longer than TIMEOUT (R118) -/

/-- The receiver state of `r` is that of `s`, but for one more payload byte at most. -/
structure StoredAtMostOne (s r : State) : Prop where
  fsm : r.rx.fsm = s.rx.fsm
  rxLen : r.rx.rxLen = s.rx.rxLen
  rxIdx : r.rx.rxIdx.toNat ≤ s.rx.rxIdx.toNat + 1
  tmr : r.rx.tmr = s.rx.tmr
  timeout : r.ctrl.timeout = s.ctrl.timeout

theorem storeByte_storedAtMostOne (d : Byte) (s : State) : StoredAtMostOne s (storeByte d s) := by
  have hidx : (s.rx.rxIdx + 1#8).toNat ≤ s.rx.rxIdx.toNat + 1 := by bv_omega
  exact ⟨rfl, rfl, hidx, rfl, rfl⟩

/-- In PAYLOAD, short of a fault and of the byte that completes the payload, the timeout is raised or the timer
advances, whether a byte arrives or not (R110, R111). -/
theorem effect_payload {i : Instr} (hi : isStream i = true) (hfault : i ≠ .rxFault) {s : State}
    (hs : s.rx.fsm = .payload) (hen : s.ctrl.en = true) (hlast : s.rx.rxIdx.toNat + 1 ≠ s.rx.rxLen.toNat) :
    ∃ r, StoredAtMostOne s r ∧ effect i s = if expired s then raise .payloadTimeout r else tickTimer r := by
  cases i
  case rxFault => exact absurd rfl hfault
  case rxByte d =>
    refine ⟨storeByte d s, storeByte_storedAtMostOne d s, ?_⟩
    rw [effect_rxByte, rxBytePhase_payload hs hen, takePayload_eq, if_neg hlast]
  case rxIdle =>
    have hk : timeoutError s.rx.fsm = some .payloadTimeout := by rw [hs]; rfl
    exact ⟨s, ⟨rfl, rfl, Nat.le_succ _, rfl, rfl⟩, rxIdlePhase_timed hk hen⟩
  all_goals cases hi

/-- Between cycles of a payload that is longer than the time allowed: at most one byte a cycle arrived. -/
structure PayloadTooLong (s : State) : Prop where
  fsm : s.rx.fsm = .payload
  en : s.ctrl.en = true
  timeLeft : s.rx.tmr.toNat < s.ctrl.timeout.toNat
  tooLong : s.ctrl.timeout.toNat < s.rx.rxLen.toNat
  received : s.rx.rxIdx.toNat ≤ s.rx.tmr.toNat

/-- Such a payload is not completed by the byte of the coming cycle. -/
theorem PayloadTooLong.not_last {s : State} (h : PayloadTooLong s) : s.rx.rxIdx.toNat + 1 ≠ s.rx.rxLen.toNat := by
  obtain ⟨-, -, htime, hlong, hrec⟩ := h
  omega

/-- The cycle presents no reset and no fault, and the host neither disables the receiver nor writes TIMEOUT. -/
def Undisturbed (v : CycleIn) : Prop :=
  v.ctl = 0#1 ∧ decodeStream v.stream ≠ .rxFault ∧
    KeepsEnabled (decodeBus v.bus v.wdata) ∧ ∀ x, decodeBus v.bus v.wdata ≠ .wrTimeout x

/-- Before the last allowed cycle the timer advances. -/
theorem afterCycle_payloadTooLong {i j : Instr} (hi : isStream i = true) (hfault : i ≠ .rxFault) (hen : KeepsEnabled j)
    (hwr : ∀ x, j ≠ .wrTimeout x) {s : State} (h : PayloadTooLong s)
    (hlt : s.rx.tmr.toNat + 1 < s.ctrl.timeout.toNat) :
    PayloadTooLong (afterCycle i j s) ∧ (afterCycle i j s).rx.tmr.toNat = s.rx.tmr.toNat + 1 := by
  obtain ⟨r, hr, heffect⟩ := effect_payload (s := beginCycle s) hi hfault h.fsm h.en h.not_last
  rw [if_neg ((not_expired_iff (beginCycle s)).mpr (.inr hlt))] at heffect
  obtain ⟨hrx, hen'⟩ := afterCycle_keepsEnabled hi hen h.en
  rw [heffect] at hrx
  have htimeout := afterCycle_timeout hi hwr s
  have htmr : (afterCycle i j s).rx.tmr.toNat = s.rx.tmr.toNat + 1 := by
    have hlt' : r.rx.tmr.toNat + 1 < r.ctrl.timeout.toNat := by rwa [hr.tmr, hr.timeout]
    rw [hrx, tickTimer_tmr_toNat hlt', hr.tmr, beginCycle_rx]
  have hidx : (afterCycle i j s).rx.rxIdx.toNat ≤ s.rx.tmr.toNat + 1 := by
    rw [hrx]
    exact hr.rxIdx.trans (Nat.succ_le_succ h.received)
  refine ⟨⟨?_, hen', ?_, ?_, ?_⟩, htmr⟩
  · rw [hrx]
    exact hr.fsm.trans h.fsm
  · rwa [htmr, htimeout]
  · rw [hrx, htimeout, tickTimer_rxLen, hr.rxLen]
    exact h.tooLong
  · rwa [htmr]

/-- The last allowed cycle raises PayloadTimeout. -/
theorem afterCycle_payloadTooLong_expires {i j : Instr} (hi : isStream i = true) (hfault : i ≠ .rxFault)
    (hen : KeepsEnabled j) {s : State} (h : PayloadTooLong s) (hexp : s.ctrl.timeout.toNat = s.rx.tmr.toNat + 1) :
    (afterCycle i j s).rx.fsm = .hunt ∧ (afterCycle i j s).log.lastErr = some .payloadTimeout := by
  have h0 : s.ctrl.timeout ≠ 0#32 := fun h0 => by
    rw [h0] at hexp
    cases hexp
  obtain ⟨r, -, heffect⟩ := effect_payload (s := beginCycle s) hi hfault h.fsm h.en h.not_last
  rw [if_pos ((expired_iff (beginCycle s)).mpr ⟨h0, hexp.le⟩)] at heffect
  obtain ⟨hrx, -⟩ := afterCycle_keepsEnabled hi hen h.en
  rw [afterCycle_lastErr, hrx, heffect]
  exact ⟨rfl, rfl⟩

/-- As many cycles as are left of TIMEOUT lead to PayloadTimeout. -/
theorem run_payloadTooLong (l : List CycleIn) {s : State} {rest : List CycleIn} (hin : s.inputs = l ++ rest)
    (hl : ∀ v ∈ l, Undisturbed v) (h : PayloadTooLong s) (hT : s.rx.tmr.toNat + l.length = s.ctrl.timeout.toNat) :
    ∃ t : State, core.run l.length s = .next t ∧ t.rx.fsm = .hunt ∧ t.log.lastErr = some .payloadTimeout ∧
      t.frame = s.frame ∧ t.dec = s.dec := by
  induction l generalizing s with
  | nil => exact absurd hT h.timeLeft.ne
  | cons v l ih =>
    obtain ⟨⟨hctl, hfault, hen, hwr⟩, hl⟩ := List.forall_mem_cons.mp hl
    have hi := decodeStream_isStream v.stream
    have hu : PayloadTooLong (s.withInputs (l ++ rest)) := ⟨h.fsm, h.en, h.timeLeft, h.tooLong, h.received⟩
    have hstep := step_afterCycle hin hctl
    obtain ⟨hframe, hdec⟩ := afterCycle_keepsFrame hi (decodeBus v.bus v.wdata)
      (s := s.withInputs (l ++ rest)) (by simp [hu.fsm])
    rw [List.length_cons] at hT ⊢
    cases l with
    | nil =>
      obtain ⟨hhunt, herr⟩ := afterCycle_payloadTooLong_expires hi hfault hen hu hT.symm
      exact ⟨_, run_succ hstep 0, hhunt, herr, hframe, hdec⟩
    | cons w l =>
      have hlt : s.rx.tmr.toNat + 1 < s.ctrl.timeout.toNat := by
        rw [List.length_cons] at hT
        omega
      obtain ⟨hnext, htmr⟩ := afterCycle_payloadTooLong hi hfault hen hwr hu hlt
      have hT' : s.rx.tmr.toNat + 1 + (w :: l).length = s.ctrl.timeout.toNat := by omega
      obtain ⟨t, hrun, hhunt, herr, hframe', hdec'⟩ := ih (afterCycle_inputs hi _ _) hl hnext
        (by rw [htmr, afterCycle_timeout hi hwr]; exact hT')
      exact ⟨t, (run_succ hstep _).trans hrun, hhunt, herr, hframe'.trans hframe, hdec'.trans hdec⟩

/-- Settles O56: in its first cycle such a payload has all of TIMEOUT left. -/
theorem aPayloadLongerThanTheTimeoutFails : Obligations.APayloadLongerThanTheTimeoutFails := by
  intro s l rest hs hidx htmr hen h0 hlong hlen hin hl
  have hzero : s.rx.tmr.toNat = 0 := congrArg BitVec.toNat htmr
  have hpos : 0 < s.ctrl.timeout.toNat := Nat.pos_of_ne_zero fun hz => h0 (BitVec.eq_of_toNat_eq hz)
  have hnone : s.rx.rxIdx.toNat ≤ s.rx.tmr.toNat := (congrArg BitVec.toNat hidx).trans_le (Nat.zero_le _)
  exact run_payloadTooLong l hin hl ⟨hs, hen, hzero.trans_lt hpos, hlong, hnone⟩ (by rw [hzero, Nat.zero_add, hlen])

/-! ## A frame on the wire (R117) -/

/-- The bytes `q` stand at the start of the buffer `m`. -/
def Received (q : List Byte) (m : Memory) : Prop := ∀ i (h : i < q.length), m.read i = q[i]

/-- How far the receiver state `r` is in the frame with payload `p`: the bytes that are still to come. -/
inductive FrameProgress (p : List Byte) (r : Rx) : List Byte → Prop
  | hunt (noise : List Byte) : r.fsm = .hunt → (∀ b ∈ noise, b ≠ 0xAA#8) → FrameProgress p r (noise ++ frameBytes p)
  | len : r.fsm = .len → FrameProgress p r (BitVec.ofNat 8 p.length :: (p ++ [0xBB#8]))
  | payload (q : List Byte) (d : Byte) (l : List Byte) : r.fsm = .payload → p = q ++ d :: l →
      r.rxLen.toNat = p.length → r.rxIdx.toNat = q.length → Received q r.rxbuf → FrameProgress p r (d :: l ++ [0xBB#8])
  | endMark : r.fsm = .endMark → r.rxLen.toNat = p.length → Received p r.rxbuf → FrameProgress p r [0xBB#8]

/-- The timer plays no part in it. -/
theorem FrameProgress.setTmr {p bs : List Byte} {r : Rx} (h : FrameProgress p r bs) (n : Word) :
    FrameProgress p { r with tmr := n } bs := by
  cases h
  case hunt noise hs hnoise => exact .hunt noise hs hnoise
  case len hs => exact .len hs
  case payload q d l hs hp hlen hidx hrec => exact .payload q d l hs hp hlen hidx hrec
  case endMark hs hlen hrec => exact .endMark hs hlen hrec

theorem FrameProgress.ne_nil {p : List Byte} {r : Rx} : ¬ FrameProgress p r [] := by
  intro h
  generalize hbs : [] = bs at h
  cases h
  case hunt => simp [frameBytes] at hbs
  all_goals cases hbs

/-- The byte stored at `rx_idx` follows those received. -/
theorem received_write {q : List Byte} {m : Memory} (form : m.wf = true) (h : Received q m) (d : Byte) :
    Received (q ++ [d]) (m.write q.length d) := by
  intro i hi
  by_cases heq : i = q.length
  · subst heq
    rw [Memory.read_write_same form, List.getElem_concat_length rfl]
  · have hlt : i < q.length := by
      rw [List.length_append, List.length_singleton] at hi
      omega
    rw [Memory.read_write_ne _ heq, h i hlt, List.getElem_append_left hlt]

/-- The frame with payload `p` is the committed one. -/
structure FrameCommitted (p : List Byte) (s : State) : Prop where
  fsm : s.rx.fsm = .hunt
  frameValid : s.frame.frameValid = true
  frameLen : s.frame.frameLen.toNat = p.length
  framebuf : Received p s.frame.framebuf
  frameOk : s.log.events.getLsbD 0 = true
  decValid : s.dec.decValid = decide (12 ≤ p.length)

/-- The length byte starts the payload, or END for an empty one (R108). -/
theorem takeLength_progress {p : List Byte} (hp : p.length ≤ 255) (s : State) :
    FrameProgress p (takeLength (BitVec.ofNat 8 p.length) s).rx (p ++ [0xBB#8]) := by
  have hlen : (BitVec.ofNat 8 p.length).toNat = p.length := by
    rw [BitVec.toNat_ofNat]
    omega
  cases p with
  | nil => exact .endMark rfl rfl nofun
  | cons d l =>
    have hne : BitVec.ofNat 8 (d :: l).length ≠ 0#8 := fun h0 => by
      rw [h0] at hlen
      cases hlen
    exact .payload [] d l (if_neg hne) rfl hlen rfl nofun

/-- A payload byte is received; the last one leads to END (R110). -/
theorem takePayload_progress {p q l : List Byte} {d : Byte} {s : State} (hs : s.rx.fsm = .payload)
    (h0 : s.ctrl.timeout = 0#32) (form : s.rx.rxbuf.wf = true) (hp : p = q ++ d :: l)
    (hlen : s.rx.rxLen.toNat = p.length) (hidx : s.rx.rxIdx.toNat = q.length) (hrec : Received q s.rx.rxbuf) :
    FrameProgress p (takePayload d s).rx (l ++ [0xBB#8]) := by
  have hp' : p = (q ++ [d]) ++ l := by rw [hp, List.append_assoc]; rfl
  have hrec' := received_write form hrec d
  rw [← hidx] at hrec'
  have hlen' : s.rx.rxLen.toNat = q.length + 1 + l.length := by
    rw [hlen, hp', List.length_append, List.length_append, List.length_singleton]
  cases l with
  | nil =>
    rw [List.append_nil] at hp'
    rw [takePayload_last (by rw [hidx, hlen', List.length_nil]), hp']
    refine .endMark rfl ?_ hrec'
    rw [← hp']
    exact hlen
  | cons e l =>
    have hlast : s.rx.rxIdx.toNat + 1 ≠ s.rx.rxLen.toNat := by
      rw [hidx, hlen', List.length_cons]
      omega
    rw [takePayload_of_not_expired hlast (.inl h0)]
    refine .payload (q ++ [d]) e l hs hp' hlen ?_ hrec'
    show (s.rx.rxIdx + 1#8).toNat = _
    rw [List.length_append, List.length_singleton, ← hidx]
    rw [List.length_cons] at hlen'
    bv_omega

/-- The next byte of the frame is taken; the last one commits it. -/
theorem rxBytePhase_progress {p bs : List Byte} {d : Byte} {s : State} (hp : p.length ≤ 255) (hen : s.ctrl.en = true)
    (h0 : s.ctrl.timeout = 0#32) (form : s.rx.rxbuf.wf = true) (h : FrameProgress p s.rx (d :: bs)) :
    FrameProgress p (rxBytePhase d s).rx bs ∨
    bs = [] ∧ rxBytePhase d s = acceptFrame s ∧ s.rx.rxLen.toNat = p.length ∧ Received p s.rx.rxbuf := by
  generalize hbs : d :: bs = all at h
  cases h
  case hunt noise hs hnoise =>
    cases noise with
    | nil =>
      cases hbs
      rw [rxBytePhase_startMarker hs hen]
      exact .inl (.len rfl)
    | cons b noise =>
      cases hbs
      obtain ⟨hb, hnoise⟩ := List.forall_mem_cons.mp hnoise
      rw [rxBytePhase_noise hs hb]
      exact .inl (.hunt noise hs hnoise)
  case len hs =>
    cases hbs
    rw [rxBytePhase_len hs hen]
    exact .inl (takeLength_progress hp s)
  case payload q d l hs hpq hlen hidx hrec =>
    cases hbs
    rw [rxBytePhase_payload hs hen]
    exact .inl (takePayload_progress hs h0 form hpq hlen hidx hrec)
  case endMark hs hlen hrec =>
    cases hbs
    exact .inr ⟨rfl, rxBytePhase_endMarker hs hen, hlen, hrec⟩

/-- With TIMEOUT = 0 an idle cycle changes nothing but the timer. -/
theorem rxIdlePhase_of_timeout_zero {s : State} (h0 : s.ctrl.timeout = 0#32) :
    ∃ n, rxIdlePhase s = { s with rx.tmr := n } := by
  rcases rxIdlePhase_cases s with heq | ⟨k, -, heq⟩
  · exact ⟨s.rx.tmr, heq⟩
  · exact ⟨_, heq.trans (waitTimed_of_not_expired k (.inl h0))⟩

/-- The commit of the received frame, in a cycle without a host access. -/
theorem afterCycle_committed {p : List Byte} {i : Instr} {s : State} (hi : isStream i = true)
    (heq : effect i (beginCycle s) = acceptFrame (beginCycle s)) (form : s.frame.framebuf.wf = true)
    (hlen : s.rx.rxLen.toNat = p.length) (hrec : Received p s.rx.rxbuf) :
    FrameCommitted p (afterCycle i .busNop s) := by
  have hframe := (afterCycle_frame i .busNop s).trans ((congrArg State.frame heq).trans (acceptFrame_frame _))
  refine ⟨?fsm, congrArg FrameRegs.frameValid hframe, ?frameLen, fun n hn => ?framebuf, ?frameOk, ?decValid⟩
  case fsm => rw [afterCycle_rx_busNop, heq, acceptFrame_rx]
  case frameLen => rw [hframe]; exact hlen
  case framebuf =>
    rw [hframe]
    exact (read_copy_received (s := beginCycle s) form (hlen ▸ hn)).trans (hrec n hn)
  case frameOk =>
    rw [afterCycle_events_busNop hi, heq, acceptFrame_ev, BitVec.getLsbD_or, BitVec.getLsbD_or]
    split <;> simp
  case decValid => rw [afterCycle_dec, heq, acceptFrame_decValid, beginCycle_rx, hlen]; rfl

/-- Between the cycles of a trace that sends the frame with payload `p`, with the lines `l` still to come. -/
structure OnTheWire (p : List Byte) (rest : List CycleIn) (l : List (Option Byte)) (s : State) : Prop where
  inv : Inv s
  en : s.ctrl.en = true
  timeout : s.ctrl.timeout = 0#32
  inputs : s.inputs = l.map traceCycle ++ rest
  progress : FrameProgress p s.rx l.reduceOption ∨ l.reduceOption = [] ∧ FrameCommitted p s

/-- An idle cycle on the wire. -/
theorem afterCycle_idle_progress {p bs : List Byte} {s : State} (h0 : s.ctrl.timeout = 0#32)
    (h : FrameProgress p s.rx bs ∨ bs = [] ∧ FrameCommitted p s) :
    FrameProgress p (afterCycle .rxIdle .busNop s).rx bs ∨
      bs = [] ∧ FrameCommitted p (afterCycle .rxIdle .busNop s) := by
  rcases h with hprog | ⟨hnil, hdone⟩
  · obtain ⟨n, hidle⟩ := rxIdlePhase_of_timeout_zero (s := beginCycle s) h0
    rw [afterCycle_rx_busNop, effect_rxIdle, hidle]
    exact .inl (hprog.setTmr n)
  · have hidle : effect .rxIdle (beginCycle s) = beginCycle s := rxIdlePhase_hunt (s := beginCycle s) hdone.fsm
    have hev : (afterCycle .rxIdle .busNop s).log.events = s.log.events := by
      rw [afterCycle_events_busNop rfl, hidle]
      exact BitVec.or_zero
    have hframe : (afterCycle .rxIdle .busNop s).frame = s.frame := by rw [afterCycle_frame, hidle]; rfl
    have hdec : (afterCycle .rxIdle .busNop s).dec = s.dec := by rw [afterCycle_dec, hidle]; rfl
    have hrx : (afterCycle .rxIdle .busNop s).rx = s.rx := by rw [afterCycle_rx_busNop, hidle]; rfl
    exact .inr ⟨hnil, hrx ▸ hdone.fsm, hframe ▸ hdone.frameValid, hframe ▸ hdone.frameLen, hframe ▸ hdone.framebuf,
      hev ▸ hdone.frameOk, hdec ▸ hdone.decValid⟩

/-- A byte on the wire. -/
theorem afterCycle_byte_progress {p bs : List Byte} {d : Byte} {s : State} (hp : p.length ≤ 255) (hinv : Inv s)
    (hen : s.ctrl.en = true) (h0 : s.ctrl.timeout = 0#32) (h : FrameProgress p s.rx (d :: bs)) :
    FrameProgress p (afterCycle (.rxByte d) .busNop s).rx bs ∨
      bs = [] ∧ FrameCommitted p (afterCycle (.rxByte d) .busNop s) := by
  rcases rxBytePhase_progress (s := beginCycle s) hp hen h0 hinv.rxbufForm h with hprog | ⟨hnil, heq, hlen, hrec⟩
  · exact .inl hprog
  · exact .inr ⟨hnil, afterCycle_committed rfl heq hinv.framebufForm hlen hrec⟩

/-- A cycle of the trace. -/
theorem step_onTheWire {p : List Byte} {rest : List CycleIn} (hp : p.length ≤ 255) (o : Option Byte)
    (l : List (Option Byte)) (s : State) (h : OnTheWire p rest (o :: l) s) :
    ∃ t, step s = .next t ∧ OnTheWire p rest l t := by
  obtain ⟨hinv, hen, h0, hin, hprog⟩ := h
  have hi := traceOp_isStream o
  have hstep := step_trace hin
  have hctrl := afterCycle_ctrl_busNop hi (s.withInputs (l.map traceCycle ++ rest))
  refine ⟨_, hstep, stepKeepsTheInvariant s _ hinv hstep, (congrArg Ctrl.en hctrl).trans hen,
    (congrArg Ctrl.timeout hctrl).trans h0, afterCycle_inputs hi .busNop _, ?progress⟩
  cases o with
  | none =>
    rw [List.reduceOption_cons_of_none] at hprog
    exact afterCycle_idle_progress (s := s.withInputs _) h0
      (hprog.imp_right fun ⟨hnil, hdone⟩ => ⟨hnil, { hdone with }⟩)
  | some d =>
    rw [List.reduceOption_cons_of_some] at hprog
    have hprog := hprog.resolve_right fun ⟨hnil, _⟩ => List.cons_ne_nil _ _ hnil
    exact afterCycle_byte_progress (s := s.withInputs _) hp { hinv with } hen h0 hprog

/-- Settles O54: noise and the frame are to come at first, and when nothing is to come the frame is committed. -/
theorem aFrameOnTheWireCommits : Obligations.AFrameOnTheWireCommits := by
  intro s noise p l rest hinv hs hen h0 hnoise hp hl hin
  have hstart : FrameProgress p s.rx l.reduceOption := hl ▸ .hunt noise hs hnoise
  obtain ⟨t, hrun, ht⟩ := run_list (P := OnTheWire p rest) (step_onTheWire hp) l ⟨hinv, hen, h0, hin, .inl hstart⟩
  obtain ⟨-, hdone⟩ := ht.progress.resolve_left FrameProgress.ne_nil
  exact ⟨t, hrun, hdone.fsm, ht.inputs, hdone.frameValid, hdone.frameLen, hdone.framebuf, hdone.frameOk, hdone.decValid⟩

end Sys2Proof.Machine

/-! PROOFS of the family 41_decoder.md: what Decode answers for a long and for a short payload, and its fields as numbers. -/

namespace Sys2Proof.Machine

/-! ## Big-endian fields and stick axes as numbers (30_encoding.md R74, R75) -/

theorem field24_toNat (p : Memory) (o : Nat) :
    (field24 p o).toNat = (p.read o).toNat * 2 ^ 16 + (p.read (o + 1)).toNat * 2 ^ 8 + (p.read (o + 2)).toNat := by
  have hlast := (p.read (o + 2)).isLt
  have hmiddle := (p.read (o + 1)).isLt
  rw [field24, be24, BitVec.toNat_append, BitVec.toNat_append, ← Nat.shiftLeft_add_eq_or_of_lt hlast,
    ← Nat.shiftLeft_add_eq_or_of_lt hmiddle, Nat.shiftLeft_eq, Nat.shiftLeft_eq]
  omega

theorem axisX_toNat (v : U24) : (axisX v).toNat = v.toNat / 2 ^ 12 := by
  have hv := v.isLt
  rw [axisX, BitVec.extractLsb'_toNat, Nat.shiftRight_eq_div_pow, Nat.mod_eq_of_lt (by omega)]

theorem axisY_toNat (v : U24) : (axisY v).toNat = v.toNat % 2 ^ 12 := by
  rw [axisY, BitVec.extractLsb'_toNat, Nat.shiftRight_zero]

/-- X is the first byte and the high nibble of the second. -/
theorem axisX_field24_toNat (p : Memory) (o : Nat) :
    (axisX (field24 p o)).toNat = (p.read o).toNat * 16 + (p.read (o + 1)).toNat / 16 := by
  have hlast := (p.read (o + 2)).isLt
  rw [axisX_toNat, field24_toNat]
  omega

/-- Y is the low nibble of the second byte and the third byte. -/
theorem axisY_field24_toNat (p : Memory) (o : Nat) :
    (axisY (field24 p o)).toNat = (p.read (o + 1)).toNat % 16 * 256 + (p.read (o + 2)).toNat := by
  have hlast := (p.read (o + 2)).isLt
  rw [axisY_toNat, field24_toNat]
  omega

/-! ## Decode and the commit, by the length of the payload (R140 to R145) -/

/-- What Decode writes for a payload long enough to hold the three fields (R142 to R145). -/
def decodedFrom (p : Memory) : Decoded where
  buttons := field24 p buttonsOffset
  lstick := field24 p lstickOffset
  rstick := field24 p rstickOffset
  decValid := true

theorem decodePayload_long {l : Byte} (h : 12 ≤ l.toNat) (p : Memory) (s : State) :
    decodePayload p l s = { s with dec := decodedFrom p } :=
  if_neg (Nat.not_lt.mpr h)

theorem decodePayload_short {l : Byte} (h : l.toNat < 12) (p : Memory) (s : State) :
    decodePayload p l s = raise .payloadTooShort s :=
  if_pos h

/-- The end marker of an enabled receiver commits (40_frame_receiver.md R112). -/
theorem exec_endMarker {s : State} (hs : s.rx.fsm = .endMark) (hen : s.ctrl.en = true) :
    exec (.rxByte 0xBB#8) s = .next (acceptFrame s) := by
  rw [exec_eq_effect, effect_commit ⟨hs, hen⟩]

theorem acceptFrame_dec_long {s : State} (h : 12 ≤ s.rx.rxLen.toNat) :
    (acceptFrame s).dec = decodedFrom s.rx.rxbuf := by
  rw [acceptFrame, endAttempt_dec, commit, decodePayload_long h]

theorem acceptFrame_log_long {s : State} (h : 12 ≤ s.rx.rxLen.toNat) : (acceptFrame s).log = s.log := by
  rw [acceptFrame, endAttempt_log, commit, decodePayload_long h]
  rfl

theorem acceptFrame_ev_long {s : State} (h : 12 ≤ s.rx.rxLen.toNat) :
    (acceptFrame s).out.ev = s.out.ev ||| 0b000001#6 :=
  (acceptFrame_ev s).trans (congrArg (s.out.ev ||| ·) (if_neg (Nat.not_lt.mpr h)))

theorem acceptFrame_dec_short {s : State} (h : s.rx.rxLen.toNat < 12) :
    (acceptFrame s).dec = { s.dec with decValid := false } := by
  rw [acceptFrame, endAttempt_dec, commit, decodePayload_short h]
  rfl

theorem acceptFrame_log_short {s : State} (h : s.rx.rxLen.toNat < 12) :
    (acceptFrame s).log = { s.log with lastErr := some .payloadTooShort } := by
  rw [acceptFrame, endAttempt_log, commit, decodePayload_short h]
  rfl

theorem acceptFrame_ev_short {s : State} (h : s.rx.rxLen.toNat < 12) :
    (acceptFrame s).out.ev = s.out.ev ||| 0b010001#6 :=
  (acceptFrame_ev s).trans (congrArg (s.out.ev ||| ·) (if_pos h))

/-- Settles O20: Decode replaces the three fields, each the big-endian number of its own bytes. -/
theorem longPayloadIsDecoded : Obligations.LongPayloadIsDecoded := by
  intro s p hs hen hlen hp
  obtain rfl : p = fun i => (s.rx.rxbuf.read i).toNat := funext hp
  refine ⟨acceptFrame s, exec_endMarker hs hen, ?_⟩
  rw [acceptFrame_dec_long hlen]
  exact ⟨rfl, field24_toNat _ buttonsOffset, axisX_field24_toNat _ lstickOffset, axisY_field24_toNat _ lstickOffset,
    axisX_field24_toNat _ rstickOffset, axisY_field24_toNat _ rstickOffset, acceptFrame_log_long hlen,
    acceptFrame_ev_long hlen⟩

/-- Settles O21: Decode raises PayloadTooShort and reads no field; the frame is committed all the same. -/
theorem shortPayloadIsRejected : Obligations.ShortPayloadIsRejected := by
  intro s hs hen hlen
  exact ⟨acceptFrame s, exec_endMarker hs hen, acceptFrame_dec_short hlen, acceptFrame_log_short hlen,
    acceptFrame_ev_short hlen, congrArg FrameRegs.frameLen (acceptFrame_frame s), acceptFrame_committed s⟩

/-! ## What the decoded values depend on (R146, R148) -/

/-- The decoded registers depend only on payload bytes 3 to 11: the three fields at 3, 6 and 9. -/
theorem decodedFrom_congr {p q : Memory} (h : ∀ i, 3 ≤ i → i ≤ 11 → p.read i = q.read i) :
    decodedFrom p = decodedFrom q := by
  have hfield {o : Nat} (ho : 3 ≤ o) (ho' : o + 2 ≤ 11) : field24 p o = field24 q o := by
    rw [field24, field24, h o (by omega) (by omega), h (o + 1) (by omega) (by omega), h (o + 2) (by omega) ho']
  rw [decodedFrom, decodedFrom, hfield (o := buttonsOffset) (by decide) (by decide),
    hfield (o := lstickOffset) (by decide) (by decide), hfield (o := rstickOffset) (by decide) (by decide)]

/-- Settles O23: both commits decode their own payload, and the two payloads agree in the bytes Decode reads. -/
theorem decodingDependsOnlyOnItsBytes : Obligations.DecodingDependsOnlyOnItsBytes := by
  intro s s' hs hen hlen hs' hen' hlen' hbytes
  refine ⟨acceptFrame s, acceptFrame s', exec_endMarker hs hen, exec_endMarker hs' hen', ?_⟩
  rw [acceptFrame_dec_long hlen, acceptFrame_dec_long hlen', decodedFrom_congr hbytes]

end Sys2Proof.Machine

/-! PROOFS of the family 42_rate_tracker.md: the tracker's operations case by case, what a normal cycle does to the
tracker, and the uptime as a function of the cycle index. -/

namespace Sys2Proof.Machine

/-! ## The tracker's operations (R161 to R163) -/

theorem Params.ticksPerSec_lt (p : Params) : p.ticksPerSec < 2 ^ 32 := Nat.succ_lt_succ p.ticksLess1.isLt

theorem uptimeTick_last {tps : Nat} {k : Tracker} (h : k.presc.toNat + 1 = tps) :
    uptimeTick tps k = { k with presc := 0#32, elapsed := k.elapsed + 1#32 } := if_pos h

theorem uptimeTick_other {tps : Nat} {k : Tracker} (h : k.presc.toNat + 1 ≠ tps) :
    uptimeTick tps k = { k with presc := k.presc + 1#32 } := if_neg h

@[simp] theorem uptimeTick_winAge (tps : Nat) (k : Tracker) : (uptimeTick tps k).winAge = k.winAge := by
  unfold uptimeTick
  split <;> rfl

@[simp] theorem uptimeTick_winCount (tps : Nat) (k : Tracker) : (uptimeTick tps k).winCount = k.winCount := by
  unfold uptimeTick
  split <;> rfl

@[simp] theorem uptimeTick_fps (tps : Nat) (k : Tracker) : (uptimeTick tps k).fps = k.fps := by
  unfold uptimeTick
  split <;> rfl

theorem ageWindow_winAge_toNat {tps : Nat} (htps : tps < 2 ^ 32) (k : Tracker) :
    (ageWindow tps k).winAge.toNat = min (k.winAge.toNat + 1) tps :=
  Nat.mod_eq_of_lt ((Nat.min_le_right _ _).trans_lt htps)

theorem frameSuccess_boundary {tps : Nat} {k : Tracker} (h : tps ≤ k.winAge.toNat) :
    frameSuccess tps k = { k with fps := k.winCount + 1#32, winCount := 0#32, winAge := 1#32 } := if_pos h

theorem frameSuccess_inside {tps : Nat} {k : Tracker} (h : k.winAge.toNat < tps) :
    frameSuccess tps k = { ageWindow tps k with winCount := k.winCount + 1#32 } := if_neg (Nat.not_le.mpr h)

theorem frameSuccess_elapsed (tps : Nat) (k : Tracker) : (frameSuccess tps k).elapsed = k.elapsed := by
  simp only [frameSuccess]
  split <;> rfl

theorem ratePhase_trk_no_commit {s : State} (h : s.committed = false) :
    (ratePhase s).trk = ageWindow s.params.ticksPerSec (uptimeTick s.params.ticksPerSec s.trk) := by
  simp [ratePhase, h]

theorem ratePhase_trk_commit {s : State} (h : s.committed = true) :
    (ratePhase s).trk = frameSuccess s.params.ticksPerSec (uptimeTick s.params.ticksPerSec s.trk) := by
  simp [ratePhase, h]

/-! ## What a normal cycle does to the tracker (R160): the stream phase decides only whether the rate phase counts -/

@[simp] theorem withInputs_params (s : State) (l : List CycleIn) : (s.withInputs l).params = s.params := rfl
@[simp] theorem withInputs_trk (s : State) (l : List CycleIn) : (s.withInputs l).trk = s.trk := rfl

theorem afterCycle_trk (i j : Instr) (s : State) :
    (afterCycle i j s).trk = (ratePhase (effect i (beginCycle s))).trk := by simp [afterCycle]

theorem afterCycle_params {i : Instr} (hi : isStream i = true) (j : Instr) (s : State) :
    (afterCycle i j s).params = s.params := by
  simp [afterCycle, (effect_streamKeeps hi (beginCycle s)).params]

theorem afterCycle_cycle {i : Instr} (hi : isStream i = true) (j : Instr) (s : State) :
    (afterCycle i j s).cycle = s.cycle + 1 := by
  simp [afterCycle, (effect_streamKeeps hi (beginCycle s)).cycle]

theorem afterCycle_trk_no_commit {i : Instr} (hi : isStream i = true) (j : Instr) {s : State}
    (h : (effect i (beginCycle s)).committed = false) :
    (afterCycle i j s).trk = ageWindow s.params.ticksPerSec (uptimeTick s.params.ticksPerSec s.trk) := by
  have hkeep := effect_streamKeeps hi (beginCycle s)
  rw [afterCycle_trk, ratePhase_trk_no_commit h, hkeep.params, hkeep.trk]
  rfl

theorem afterCycle_trk_commit {i : Instr} (hi : isStream i = true) (j : Instr) {s : State}
    (h : (effect i (beginCycle s)).committed = true) :
    (afterCycle i j s).trk = frameSuccess s.params.ticksPerSec (uptimeTick s.params.ticksPerSec s.trk) := by
  have hkeep := effect_streamKeeps hi (beginCycle s)
  rw [afterCycle_trk, ratePhase_trk_commit h, hkeep.params, hkeep.trk]
  rfl

/-- With a commit or without one, `presc` and ELAPSED take the uptime tick and nothing else (R168). -/
theorem afterCycle_uptime {i : Instr} (hi : isStream i = true) (j : Instr) (s : State) :
    (afterCycle i j s).trk.presc = (uptimeTick s.params.ticksPerSec s.trk).presc ∧
    (afterCycle i j s).trk.elapsed = (uptimeTick s.params.ticksPerSec s.trk).elapsed := by
  cases h : (effect i (beginCycle s)).committed
  case false =>
    rw [afterCycle_trk_no_commit hi j h]
    exact ⟨rfl, rfl⟩
  case true =>
    rw [afterCycle_trk_commit hi j h]
    exact ⟨frameSuccess_presc _ _, frameSuccess_elapsed _ _⟩

/-- Settles O47: whatever the cycle presents, its uptime is the uptime tick, which has two cases. -/
theorem uptimeTicksEveryCycle : Obligations.UptimeTicksEveryCycle := by
  intro s v rest h hc
  obtain ⟨hpresc, helapsed⟩ :=
    afterCycle_uptime (decodeStream_isStream v.stream) (decodeBus v.bus v.wdata) (s.withInputs rest)
  rw [withInputs_params, withInputs_trk] at hpresc helapsed
  refine ⟨_, step_afterCycle h hc, fun hlast => ?last, fun hother => ?other⟩
  case last =>
    rw [hpresc, helapsed, uptimeTick_last hlast]
    exact ⟨rfl, BitVec.toNat_add s.trk.elapsed 1#32⟩
  case other =>
    rw [hpresc, helapsed, uptimeTick_other hother]
    exact ⟨BitVec.toNat_add s.trk.presc 1#32, rfl⟩

/-- Settles O48: a stream phase that accepts no end marker leaves nothing committed, so the rate phase ages the window. -/
theorem windowAgesWithoutACommit : Obligations.WindowAgesWithoutACommit := by
  intro s v rest h hc hn
  have hi := decodeStream_isStream v.stream
  have hn' : ¬ (AtEndMarker (beginCycle (s.withInputs rest)) ∧ decodeStream v.stream = .rxByte 0xBB#8) :=
    fun ⟨⟨hs, hen⟩, hbyte⟩ => hn ⟨hc, hs, hen, hbyte⟩
  obtain ⟨-, -, hcommitted⟩ := effect_no_commit hi hn'
  refine ⟨_, step_afterCycle h hc, ?_⟩
  rw [afterCycle_trk_no_commit hi _ hcommitted]
  refine ⟨?age, uptimeTick_winCount _ _, uptimeTick_fps _ _⟩
  case age =>
    rw [ageWindow_winAge_toNat (Params.ticksPerSec_lt _), uptimeTick_winAge, withInputs_params, withInputs_trk]

/-- Settles O49: an accepted end marker commits, so the rate phase counts the frame in the window as old as it was at the
start of the cycle; the events are those of the commit. -/
theorem aCommitIsCountedInItsWindow : Obligations.ACommitIsCountedInItsWindow := by
  intro s v rest h ⟨hc, hs, hen, hbyte⟩
  have hcommit : effect (decodeStream v.stream) (beginCycle (s.withInputs rest)) =
      acceptFrame (beginCycle (s.withInputs rest)) := hbyte ▸ effect_commit ⟨hs, hen⟩
  have htrk : (afterCycle (decodeStream v.stream) (decodeBus v.bus v.wdata) (s.withInputs rest)).trk =
      frameSuccess s.params.ticksPerSec (uptimeTick s.params.ticksPerSec s.trk) :=
    afterCycle_trk_commit (decodeStream_isStream v.stream) _ (hcommit ▸ acceptFrame_committed _)
  have hage := uptimeTick_winAge s.params.ticksPerSec s.trk
  refine ⟨_, step_afterCycle h hc, ?events, fun hclosed => ?boundary, fun hopen => ?inside⟩
  case events =>
    rw [afterCycle_ev, hcommit, acceptFrame_ev]
    exact BitVec.zero_or
  case boundary =>
    rw [htrk, frameSuccess_boundary (hage ▸ hclosed), uptimeTick_winCount]
    exact ⟨BitVec.toNat_add s.trk.winCount 1#32, rfl, rfl⟩
  case inside =>
    rw [htrk, frameSuccess_inside (hage ▸ hopen), uptimeTick_winCount]
    refine ⟨uptimeTick_fps _ _, BitVec.toNat_add s.trk.winCount 1#32, ?_⟩
    exact (ageWindow_winAge_toNat s.params.ticksPerSec_lt _).trans (by rw [hage])

/-! ## The uptime as a function of the cycle index (R161, 00_scope.md R10) -/

/-- The uptime tick carries remainder and quotient of `c` to those of `c + 1`: the remainder wraps where `presc` does. -/
theorem uptimeTick_cycle_succ {tps : Nat} (hpos : 0 < tps) (htps : tps < 2 ^ 32) {k : Tracker} {c : Nat}
    (hpresc : k.presc.toNat = c % tps) (helapsed : k.elapsed.toNat = c / tps % 2 ^ 32) :
    (uptimeTick tps k).presc.toNat = (c + 1) % tps ∧
    (uptimeTick tps k).elapsed.toNat = (c + 1) / tps % 2 ^ 32 := by
  have hsplit : c % tps + tps * (c / tps) = c := Nat.mod_add_div c tps
  by_cases hlast : k.presc.toNat + 1 = tps
  · obtain ⟨hquot, hrem⟩ : (c + 1) / tps = c / tps + 1 ∧ (c + 1) % tps = 0 :=
      (Nat.div_mod_unique hpos).mpr ⟨by rw [Nat.mul_add_one]; omega, hpos⟩
    rw [uptimeTick_last hlast, hquot, hrem]
    refine ⟨rfl, (BitVec.toNat_add k.elapsed 1#32).trans ?_⟩
    rw [helapsed]
    exact Nat.mod_add_mod _ _ _
  · have hbelow := Nat.mod_lt c hpos
    obtain ⟨hquot, hrem⟩ : (c + 1) / tps = c / tps ∧ (c + 1) % tps = c % tps + 1 :=
      (Nat.div_mod_unique hpos).mpr ⟨by omega, by omega⟩
    rw [uptimeTick_other hlast, hquot, hrem]
    refine ⟨(BitVec.toNat_add k.presc 1#32).trans ?_, helapsed⟩
    rw [hpresc]
    exact Nat.mod_eq_of_lt (by show c % tps + 1 < 2 ^ 32; omega)

theorem resetWith_uptimeOfCycle (p : Params) (l : List CycleIn) (n : Nat) : UptimeOfCycle (State.resetWith p l n) :=
  ⟨(Nat.zero_mod _).symm, by simp [State.resetWith]⟩

theorem afterCycle_uptimeOfCycle {i : Instr} (hi : isStream i = true) (j : Instr) {s : State} (h : UptimeOfCycle s) :
    UptimeOfCycle (afterCycle i j s) := by
  obtain ⟨hpresc, helapsed⟩ := h
  obtain ⟨hpresc', helapsed'⟩ := afterCycle_uptime hi j s
  rw [UptimeOfCycle, hpresc', helapsed', afterCycle_cycle hi, afterCycle_params hi]
  exact uptimeTick_cycle_succ s.params.ticksPerSec_pos s.params.ticksPerSec_lt hpresc helapsed

/-- Settles O50: a reset cycle starts again at cycle index 0, and a normal cycle advances the uptime with the index. -/
theorem stepKeepsUptimeOfCycle : Obligations.StepKeepsUptimeOfCycle := by
  intro s t h hstep
  rcases runCycle_cases (nextInput s) with hrun | ⟨i, j, hi, -, hrun⟩
  · cases (hrun _).symm.trans hstep
    exact resetWith_uptimeOfCycle _ _ _
  · cases (hrun _).symm.trans hstep
    exact afterCycle_uptimeOfCycle hi j (s := consumeInput s) h

/-- Settles O51: State.reset is a reset state, at cycle index 0. -/
theorem resetMeetsUptimeOfCycle : Obligations.ResetMeetsUptimeOfCycle := resetWith_uptimeOfCycle _ _ _

end Sys2Proof.Machine

/-! PROOFS of the family 43_host_bus.md: what each host read answers, what each host write does, and how both stand in
the cycle. -/

namespace Sys2Proof.Machine

/-! ## Registers and packed words as numbers (20_memory.md R53, 30_encoding.md R82) -/

/-- Fields put side by side, as a number. -/
theorem toNat_append_eq_add {n k : Nat} (x : BitVec n) (y : BitVec k) : (x ++ y).toNat = x.toNat * 2 ^ k + y.toNat := by
  rw [BitVec.toNat_append, ← Nat.shiftLeft_add_eq_or_of_lt y.isLt, Nat.shiftLeft_eq]

theorem flagBit_toNat (b : Bool) : (flagBit b).toNat = if b then 1 else 0 := by cases b <;> rfl

/-- STATUS by its fields: STATE from bit 0, FRAME_VALID bit 3, DEC_VALID bit 4, LAST_ERR from bit 8 (43_host_bus.md
R184). -/
theorem statusWord_toNat (s : State) :
    (statusWord s).toNat = s.rx.fsm.code.toNat + (if s.frame.frameValid then 8 else 0) +
      (if s.dec.decValid then 16 else 0) + 256 * (lastErrCode s.log.lastErr).toNat := by
  simp only [statusWord, toNat_append_eq_add, flagBit_toNat, BitVec.toNat_ofNat]
  split_ifs <;> omega

/-- A packed stick value by its axes: X above Y (30_encoding.md R75). -/
theorem toNat_eq_axes (v : U24) : v.toNat = 4096 * (axisX v).toNat + (axisY v).toNat := by
  rw [axisX_toNat, axisY_toNat]
  exact (Nat.div_add_mod v.toNat 4096).symm

/-- A lane as a number: the byte of FRAMEBUF below FRAME_LEN, 0 from there on (R204). -/
theorem payloadLane_toNat (f : FrameRegs) (i : Nat) :
    (payloadLane f i).toNat = if i < f.frameLen.toNat then (f.framebuf.read i).toNat else 0 := by
  unfold payloadLane
  split <;> rfl

/-- Byte `j` of PAYLOAD word `k` is the lane of payload byte `4k + j`: the four lanes are the word's digits to base 256. -/
theorem payloadWord_digit (f : FrameRegs) (k : Nat) {j : Nat} (hj : j < 4) :
    (payloadWord f k).toNat / 256 ^ j % 256 = (payloadLane f (4 * k + j)).toNat := by
  have h0 := (payloadLane f (4 * k)).isLt
  have h1 := (payloadLane f (4 * k + 1)).isLt
  have h2 := (payloadLane f (4 * k + 2)).isLt
  have h3 := (payloadLane f (4 * k + 3)).isLt
  rw [payloadWord, toNat_append_eq_add, toNat_append_eq_add, toNat_append_eq_add]
  interval_cases j
  · simp only [Nat.add_zero, pow_zero, Nat.div_one]
    omega
  all_goals omega

/-! ## Host reads (R182 to R208) -/

/-- Settles O30: the word's digits to base 256 are its lanes. -/
theorem payloadReadAnswersItsLanes : Obligations.PayloadReadAnswersItsLanes := by
  intro s k
  refine ⟨_, exec_rdPayload k s, fun j hj => ?_⟩
  rw [payloadWord_digit s.frame k.toNat hj, payloadLane_toNat]

/-- Settles O25: EN and IRQ_EN are zero-extended, TIMEOUT is a word already. -/
theorem controlReadsAnswerTheRegister : Obligations.ControlReadsAnswerTheRegister := by
  intro s
  refine ⟨⟨_, exec_rdCtrl s, ?_⟩, ⟨_, exec_rdIrqEn s, ?_⟩, exec_rdTimeout s⟩
  · rw [BitVec.toNat_setWidth_of_le (by decide), flagBit_toNat]
  · exact BitVec.toNat_setWidth_of_le (by decide)

/-- Settles O26: the fields of STATUS, with the codes of STATE and LAST_ERR written out. -/
theorem statusReadPacksItsFields : Obligations.StatusReadPacksItsFields := by
  intro s
  refine ⟨_, exec_rdStatus s, (statusWord_toNat s).trans ?_⟩
  congr 1
  · congr 2
    cases s.rx.fsm <;> rfl
  · congr 1
    rcases s.log.lastErr with _ | k
    · rfl
    · cases k <;> rfl

/-- Settles O27: both registers are zero-extended, and a read only answers. -/
theorem eventAndLengthReadsClearNothing : Obligations.EventAndLengthReadsClearNothing := by
  intro s
  exact ⟨⟨_, exec_rdEvents s, BitVec.toNat_setWidth_of_le (by decide)⟩,
    ⟨_, exec_rdFrameLen s, BitVec.toNat_setWidth_of_le (by decide)⟩⟩

/-- Settles O28: the 24-bit registers are zero-extended, and a stick value is its two axes. -/
theorem decodedReadsAnswerTheRegisters : Obligations.DecodedReadsAnswerTheRegisters := by
  intro s
  have hext (v : U24) : (v.setWidth 32).toNat = v.toNat := BitVec.toNat_setWidth_of_le (by decide)
  exact ⟨⟨_, exec_rdButtons s, hext _⟩, ⟨_, exec_rdLstick s, (hext _).trans (toNat_eq_axes _)⟩,
    ⟨_, exec_rdRstick s, (hext _).trans (toNat_eq_axes _)⟩⟩

/-- Settles O29: both registers are answered as they stand. -/
theorem trackerReadsAnswerTheSnapshot : Obligations.TrackerReadsAnswerTheSnapshot :=
  fun s => ⟨exec_rdFps s, exec_rdElapsed s⟩

/-- Settles O31: neither operation looks at the state. -/
theorem reservedReadsAndNoAccessAnswerZero : Obligations.ReservedReadsAndNoAccessAnswerZero :=
  fun s a => ⟨exec_rdRsvd a s, exec_busNop s⟩

/-! ## Host writes (R183 to R207) -/

/-- A write is its write effect, with the answer 0 (R180). -/
theorem exec_write {j : Instr} (hb : isBus j = true) (hr : j.isRead = false) (s : State) :
    exec j s = .next ((writeEffect j s).respond 0#32) := by
  rw [exec_eq_effect, effect_bus hb, busAnswer_other hb hr]

/-- Settles O32: the arm of each of the nine operations is the ignored write. -/
theorem readOnlyWritesAreIgnored : Obligations.ReadOnlyWritesAreIgnored := by
  intro s v k a i hi
  have hignored : exec i s = ignoredWrite s := by fin_cases hi <;> rfl
  exact hignored

/-- Settles O33: the three write effects of WR.CTRL. -/
theorem controlWriteSetsEnable : Obligations.ControlWriteSetsEnable := by
  intro s v
  rw [exec_write (j := .wrCtrl v) rfl rfl]
  refine ⟨fun hv => ?enable, fun hv hs => ?disable, fun hv hs => ?disableHalt⟩
  case enable =>
    rw [writeEffect_wrCtrl_enable hv]
    rfl
  case disable =>
    rw [writeEffect_wrCtrl_disable hv hs]
    rfl
  case disableHalt =>
    rw [writeEffect_wrCtrl_disable_halt hv hs]
    rfl

/-- Bit by bit, write one to clear keeps a bit exactly where the operand's bit is 0 (R187, 20_memory.md R63). -/
theorem w1c_getLsbD (e : BitVec 6) (x : Word) {i : Nat} (hi : i < 6) :
    (w1c e (x.extractLsb' 0 6)).getLsbD i = (e.getLsbD i && !x.getLsbD i) := by
  rw [w1c, BitVec.getLsbD_and, BitVec.getLsbD_not, BitVec.getLsbD_extractLsb', decide_eq_true hi, Nat.zero_add,
    Bool.true_and, Bool.true_and]

/-- Settles O34: the write effect of WR.EVENTS, bit by bit. -/
theorem eventsWriteClearsWrittenOnes : Obligations.EventsWriteClearsWrittenOnes :=
  fun s v => ⟨_, exec_wrEvents v s, fun _ hi => w1c_getLsbD s.log.events v hi⟩

/-- Settles O35: each register takes the operand, IRQ_EN its six low bits. -/
theorem configurationWritesTakeTheOperand : Obligations.ConfigurationWritesTakeTheOperand :=
  fun s v => ⟨⟨_, BitVec.extractLsb'_toNat 0 6 v, exec_wrIrqEn v s⟩, exec_wrTimeout v s⟩

/-! ## Host accesses in the cycle (R181, R187) -/

/-- A read does not see which inputs are still to come. -/
theorem busAnswer_withInputs {j : Instr} (h : j.isRead = true) (s : State) (l : List CycleIn) :
    busAnswer j (s.withInputs l) = busAnswer j s := by
  cases j <;> cases h <;> rfl

/-- Settles O38: the cycle's answer is taken from the state at its start, whose inputs no read sees. -/
theorem busReadSeesTheStartOfTheCycle : Obligations.BusReadSeesTheStartOfTheCycle := by
  intro s v rest h hc hr
  exact ⟨_, _, step_afterCycle h hc, exec_eq_effect _ s, busAnswer_withInputs hr s rest⟩

/-- The EVENTS bits an operation clears: the written ones of a WR.EVENTS, none else (R187). -/
def eventsCleared : Instr → BitVec 6
  | .wrEvents x => x.extractLsb' 0 6
  | _ => 0#6

/-- Of the write effects only that of WR.EVENTS reaches EVENTS. -/
theorem writeEffect_events (j : Instr) (s : State) :
    (writeEffect j s).log.events = w1c s.log.events (eventsCleared j) := by
  have hkeep : w1c s.log.events 0#6 = s.log.events := BitVec.and_allOnes
  cases j
  case wrEvents x => rfl
  case wrCtrl x =>
    refine .trans ?_ hkeep.symm
    simp only [writeEffect]
    split <;> rfl
  all_goals exact hkeep.symm

/-- EVENTS after a normal cycle: `(EVENTS & ~clr) | E` (00_scope.md R9, 43_host_bus.md R187). -/
theorem afterCycle_events {i : Instr} (hi : isStream i = true) (j : Instr) (s : State) :
    (afterCycle i j s).log.events = w1c s.log.events (eventsCleared j) ||| (afterCycle i j s).out.ev := by
  have hstream := (effect_streamKeeps hi (beginCycle s)).events
  simp [afterCycle, writeEffect_events, hstream]

/-- Only the words of the row WR.EVENTS decode to it (30_encoding.md R83). -/
theorem busWord_of_wrEvents {w : BitVec 14} {v x : Word} (h : decodeBus w v = .wrEvents x) :
    w &&& 0x3FFC#14 = 0x3008#14 := by
  cases hs : w.getLsbD 13
  case false => exact absurd (h.symm.trans (decodeBus_of_not_selected hs v)) nofun
  case true =>
    obtain ⟨-, y, henc⟩ := decodeBus_wf_encode hs v
    rw [h] at henc
    injection henc with hw
    exact hw.symm

/-- The row WR.EVENTS clears the ones of WDATA. -/
theorem eventsCleared_wrEvents {w : BitVec 14} (v : Word) (h : w &&& 0x3FFC#14 = 0x3008#14) :
    eventsCleared (decodeBus w v) = v.extractLsb' 0 6 := by
  rw [(decodeBus_eq_register_iff (i := .wrEvents v) (by simp [Claims.registerRows])).mp h]
  rfl

/-- Every other BUS word clears nothing. -/
theorem eventsCleared_other {w : BitVec 14} (v : Word) (h : w &&& 0x3FFC#14 ≠ 0x3008#14) :
    eventsCleared (decodeBus w v) = 0#6 := by
  unfold eventsCleared
  split
  next x hj => exact absurd (busWord_of_wrEvents hj) h
  next => rfl

/-- Settles O37: the cycle's event set is composed with EVENTS after the clear, which the BUS word decides. -/
theorem eventSetWinsOverClear : Obligations.EventSetWinsOverClear := by
  intro s v rest clr h hc hclr
  have hcleared : eventsCleared (decodeBus v.bus v.wdata) = clr.extractLsb' 0 6 := by
    rcases hclr with ⟨rfl, hw⟩ | ⟨rfl, hw⟩
    · exact eventsCleared_wrEvents v.wdata hw
    · exact eventsCleared_other v.wdata hw
  refine ⟨_, step_afterCycle h hc, fun i hi => ?_⟩
  rw [afterCycle_events (decodeStream_isStream v.stream), hcleared, BitVec.getLsbD_or, w1c_getLsbD _ clr hi]
  rfl

end Sys2Proof.Machine

/-! PROOFS of the family 60_exceptions.md: the events and the error code a cycle records, and the interrupt line. -/

namespace Sys2Proof.Machine

/-! ## Events and LAST_ERR of a cycle (60_exceptions.md R230 to R234, R239) -/

theorem raise_ev_ne_zero (k : ErrKind) (s : State) : (raise k s).out.ev ≠ 0#6 := by
  rw [raise_ev]
  intro h
  have hbit : k.eventBit = 0#6 := (BitVec.or_eq_zero_iff.mp h).2
  cases k <;> exact absurd hbit (by decide)

theorem acceptFrame_ev_ne_zero (s : State) : (acceptFrame s).out.ev ≠ 0#6 := by
  rw [acceptFrame_ev]
  intro h
  have hbits := (BitVec.or_eq_zero_iff.mp h).2
  split at hbits <;> exact absurd hbits (by decide)

/-- LAST_ERR is written only together with an event (R231 to R233). -/
theorem effect_lastErr_of_no_event {i : Instr} (hi : isStream i = true) {s : State} (h : (effect i s).out.ev = 0#6) :
    (effect i s).log.lastErr = s.log.lastErr := by
  obtain ⟨p, hp, hact⟩ := stream_action hi s
  rw [hact.effect_eq] at h ⊢
  cases hp
  case keep | start | length => rfl
  case fault | mismatch => exact absurd h (raise_ev_ne_zero _ s)
  case accept => exact absurd h (acceptFrame_ev_ne_zero s)
  case payload d _ _ =>
    rw [takePayload_eq] at h ⊢
    split_ifs at h ⊢
    · rfl
    · exact absurd h (raise_ev_ne_zero _ _)
    · rfl
  case wait k _ _ _ _ =>
    unfold waitTimed at h ⊢
    split at h
    · exact absurd h (raise_ev_ne_zero k s)
    next hexp => rw [if_neg hexp]; rfl

/-- Settles O36: the stream phase records nothing, a commit with what Decode adds to it, or one other error; the phases
after it record nothing. -/
theorem aCycleRaisesAtMostOneEvent : Obligations.ACycleRaisesAtMostOneEvent := by
  intro s v rest h hc
  have hi := decodeStream_isStream v.stream
  refine ⟨_, step_afterCycle h hc, ?_⟩
  rw [afterCycle_ev, afterCycle_lastErr]
  rcases effect_event hi (beginCycle (s.withInputs rest)) with hnone | hcommit | ⟨k, r, hk, hraise, hrev, -, -⟩
  · exact .inl ⟨hnone, effect_lastErr_of_no_event hi hnone⟩
  · rw [hcommit]
    rcases Nat.lt_or_ge (beginCycle (s.withInputs rest)).rx.rxLen.toNat 12 with hshort | hlong
    · exact .inr (.inr (.inl ⟨(acceptFrame_ev_short hshort).trans BitVec.zero_or,
        congrArg EventLog.lastErr (acceptFrame_log_short hshort)⟩))
    · exact .inr (.inl ⟨(acceptFrame_ev_long hlong).trans BitVec.zero_or,
        congrArg EventLog.lastErr (acceptFrame_log_long hlong)⟩)
  · have hev : (raise k r).out.ev = k.eventBit := by
      rw [raise_ev, hrev]
      exact BitVec.zero_or
    rw [hraise, hev, raise_lastErr]
    cases k
    case payloadTooShort => exact absurd rfl hk
    all_goals simp [ErrKind.eventBit]

/-! ## The interrupt line (60_exceptions.md R238) -/

/-- The interrupt line is up when some pending event is enabled. -/
theorem irqLine_iff (s : State) :
    irqLine s = true ↔ ∃ i, i < 6 ∧ s.log.events.getLsbD i = true ∧ s.ctrl.irqEn.getLsbD i = true := by
  have hzero : s.log.events &&& s.ctrl.irqEn = 0#6 ↔
      ∀ i, i < 6 → (s.log.events &&& s.ctrl.irqEn).getLsbD i = (0#6).getLsbD i :=
    ⟨fun h i _ => congrArg (·.getLsbD i) h, BitVec.eq_of_getLsbD_eq⟩
  simp [irqLine, hzero]

/-- Settles O41: the line is taken from the state at the start of the cycle, and no later phase changes the port; a reset
cycle clears it. -/
theorem interruptIsTheEnabledPendingEvents : Obligations.InterruptIsTheEnabledPendingEvents := by
  intro s v rest h
  rcases BitVec.eq_zero_or_eq_one v.ctl with hc | hc
  · have hirq := congrArg Outputs.irq
      (afterCycle_out (decodeStream_isStream v.stream) (decodeBus v.bus v.wdata) (s.withInputs rest))
    refine ⟨_, step_afterCycle h hc, fun _ => ?_, fun h1 => absurd (hc.symm.trans h1) (by decide)⟩
    rw [hirq]
    exact irqLine_iff s
  · exact ⟨_, (step_listed h).trans (runCycle_reset hc _), fun h0 => absurd (hc.symm.trans h0) (by decide), fun _ => rfl⟩

end Sys2Proof.Machine

/-! PROOFS of the family 70_reset_and_hazards.md: the reset values, and the frame that the torn-read protocol sees. -/

namespace Sys2Proof.Machine

/-! ## Reset (R260, R261) -/

/-- Nothing committed: every lane of the PAYLOAD window is 0 (43_host_bus.md R204). -/
theorem payloadWord_of_frameLen_zero {f : FrameRegs} (h : f.frameLen = 0#8) (k : Nat) : payloadWord f k = 0#32 := by
  have hlane (i : Nat) : payloadLane f i = 0x00#8 := if_neg (by simp [h])
  simp only [payloadWord, hlane]
  rfl

/-- Settles O7: the reset state is written out field by field, and its PAYLOAD window reads 0, which its outputs hold. -/
theorem resetGivesResetState : Obligations.ResetGivesResetState := by
  intro s
  refine ⟨State.resetWith s.params s.inputs s.draws, exec_reset s, rfl, rfl, rfl, rfl, rfl, rfl, rfl, rfl, rfl, rfl, rfl,
    rfl, rfl, rfl, rfl, fun k => ?payload, exec_reset _⟩
  case payload =>
    rw [exec_rdPayload, payloadWord_of_frameLen_zero rfl]
    rfl

/-- Settles O8: State.reset is a reset state, and RESET rebuilds it from its own parameters and inputs. -/
theorem stateResetIsResetState : Obligations.StateResetIsResetState :=
  ⟨rfl, rfl, rfl, rfl, rfl, rfl, rfl, rfl, rfl, rfl, rfl, exec_reset State.reset⟩

/-- Settles O52: every reset state meets the invariant. -/
theorem resetMeetsTheInvariant : Obligations.ResetMeetsTheInvariant := resetWith_inv _ _ _

/-! ## Torn reads (R265) -/

/-- A commit raises FRAME_OK (40_frame_receiver.md R115). -/
theorem acceptFrame_frameOk (s : State) : (acceptFrame s).out.ev.getLsbD 0 = true := by
  rw [acceptFrame_ev, BitVec.getLsbD_or]
  split <;> simp

/-- A stream operation that leaves FRAME_OK out of the cycle's event set commits nothing. -/
theorem effect_frame_of_no_frameOk {i : Instr} (hi : isStream i = true) {s : State}
    (h : (effect i s).out.ev.getLsbD 0 = false) : (effect i s).frame = s.frame ∧ (effect i s).dec = s.dec := by
  have hn : ¬ (AtEndMarker s ∧ i = .rxByte 0xBB#8) := by
    rintro ⟨hend, rfl⟩
    rw [effect_commit hend, acceptFrame_frameOk] at h
    cases h
  obtain ⟨hframe, hdec, -⟩ := effect_no_commit hi hn
  exact ⟨hframe, hdec⟩

/-- Only WR.EVENTS clears events. -/
theorem eventsCleared_of_ne_wrEvents {j : Instr} (h : ∀ x, j ≠ .wrEvents x) : eventsCleared j = 0#6 := by
  unfold eventsCleared
  split
  next x => exact absurd rfl (h x)
  next => rfl

/-- The bit FRAME_OK of EVENTS (10_state.md R29). -/
def frameOk (s : State) : Bool := s.log.events.getLsbD 0

/-- FRAME_OK is 0 after a cycle only if the cycle committed nothing, a cycle that clears it included: the set wins
(43_host_bus.md R187). -/
theorem afterCycle_frame_of_frameOk_clear {i : Instr} (hi : isStream i = true) (j : Instr) {s : State}
    (h : frameOk (afterCycle i j s) = false) :
    (afterCycle i j s).frame = s.frame ∧ (afterCycle i j s).dec = s.dec := by
  rw [frameOk, afterCycle_events hi, BitVec.getLsbD_or, Bool.or_eq_false_iff, afterCycle_ev] at h
  rw [afterCycle_frame, afterCycle_dec]
  exact effect_frame_of_no_frameOk hi h.2

/-- FRAME_OK stays 1 through a cycle that does not write EVENTS. -/
theorem frameOk_clear_of_afterCycle {i j : Instr} (hi : isStream i = true) (hj : ∀ x, j ≠ .wrEvents x) {s : State}
    (h : frameOk (afterCycle i j s) = false) : frameOk s = false := by
  rw [frameOk, afterCycle_events hi, eventsCleared_of_ne_wrEvents hj, BitVec.getLsbD_or, Bool.or_eq_false_iff, w1c,
    BitVec.not_zero, BitVec.and_allOnes] at h
  exact h.1

/-- The run from `s` has the committed frame and the decoded state of `s` at the start of each of its first `n` cycles and
after the last of them. -/
def FrameHeld (n : Nat) (s : State) : Prop :=
  ∀ k, k ≤ n → ∃ u : State, core.run k s = .next u ∧ u.frame = s.frame ∧ u.dec = s.dec

theorem frameHeld_zero (s : State) : FrameHeld 0 s := by
  intro k hk
  obtain rfl := Nat.le_zero.mp hk
  exact ⟨s, rfl, rfl, rfl⟩

/-- One more cycle before the run, which changed neither. -/
theorem FrameHeld.cons {n : Nat} {s t : State} (hstep : step s = .next t) (hsame : t.frame = s.frame ∧ t.dec = s.dec)
    (h : FrameHeld n t) : FrameHeld (n + 1) s := by
  intro k hk
  cases k with
  | zero => exact ⟨s, rfl, rfl, rfl⟩
  | succ k =>
    obtain ⟨u, hrun, hframe, hdec⟩ := h k (Nat.le_of_succ_le_succ hk)
    exact ⟨u, (run_succ hstep k).trans hrun, hframe.trans hsame.1, hdec.trans hsame.2⟩

/-- The cycle neither resets nor writes EVENTS. -/
def KeepsEvents (v : CycleIn) : Prop := v.ctl = 0#1 ∧ ∀ x, decodeBus v.bus v.wdata ≠ .wrEvents x

/-- A cycle hands the inputs still to come on as they are (20_memory.md R58). -/
theorem afterCycle_withInputs_inputs (s : State) (v : CycleIn) (rest : List CycleIn) :
    (afterCycle (decodeStream v.stream) (decodeBus v.bus v.wdata) (s.withInputs rest)).inputs = rest :=
  afterCycle_inputs (decodeStream_isStream v.stream) _ _

/-- FRAME_OK is 0 after cycles that do not clear it only if it was 0 before them and none of them committed. -/
theorem run_frameHeld (l : List CycleIn) {s : State} {rest : List CycleIn} (hin : s.inputs = l ++ rest)
    (hl : ∀ w ∈ l, KeepsEvents w) :
    ∃ t : State, core.run l.length s = .next t ∧ (frameOk t = false → frameOk s = false ∧ FrameHeld l.length s) := by
  induction l generalizing s with
  | nil => exact ⟨s, rfl, fun hclear => ⟨hclear, frameHeld_zero s⟩⟩
  | cons w l ih =>
    obtain ⟨⟨hc, hj⟩, hl⟩ := List.forall_mem_cons.mp hl
    have hi := decodeStream_isStream w.stream
    have hstep := step_afterCycle hin hc
    obtain ⟨t, hrun, hheld⟩ := ih (afterCycle_withInputs_inputs s w (l ++ rest)) hl
    refine ⟨t, (run_succ hstep _).trans hrun, fun hclear => ?_⟩
    obtain ⟨hclear', hrest⟩ := hheld hclear
    exact ⟨frameOk_clear_of_afterCycle (s := s.withInputs (l ++ rest)) hi hj hclear',
      hrest.cons hstep (afterCycle_frame_of_frameOk_clear hi _ hclear')⟩

/-- Settles O57: FRAME_OK still 0 at the end was 0 right after the WR.EVENTS, whose cycle so committed nothing either. -/
theorem tornReadProtocolSeesOneFrame : Obligations.TornReadProtocolSeesOneFrame := by
  intro s v l rest hin hc _ hl
  have hi := decodeStream_isStream v.stream
  have hstep := step_afterCycle hin hc
  obtain ⟨t, hrun, hheld⟩ := run_frameHeld l (afterCycle_withInputs_inputs s v (l ++ rest)) hl
  refine ⟨t, (run_succ hstep _).trans hrun, fun hclear => ?_⟩
  obtain ⟨hclear', hrest⟩ := hheld hclear
  exact hrest.cons hstep (afterCycle_frame_of_frameOk_clear hi _ hclear')

/-- A machine with a committed frame and FRAME_OK = 1 to which a WR.EVENTS of 1, a read of BUTTONS and an idle cycle
come. -/
def beforeTornRead : State :=
  { State.resetWith { ticksLess1 := 7, timeoutReset := 16#32 }
      [{ idleCycle with bus := 0x3008#14, wdata := 1#32 }, { idleCycle with bus := 0x2018#14 }, idleCycle] 0 with
    log.events := evFrameOk, frame.frameValid := true }

/-- The protocol can end with FRAME_OK = 0. -/
theorem tornReadProtocol_can_end_clear :
    frameOk beforeTornRead = true ∧ ∃ t : State, core.run 3 beforeTornRead = .next t ∧ frameOk t = false := by
  have hrun := (run_succ (s := beforeTornRead) (step_afterCycle rfl rfl) 2).trans
    ((run_succ (step_afterCycle rfl rfl) 1).trans (run_succ (step_afterCycle rfl rfl) 0))
  exact ⟨by decide, _, hrun, by decide⟩

end Sys2Proof.Machine
